-- ==== Sys2Proof/Word.lean ====
section
/-! DEFINITION. The two word types of the core: the byte and the 16-bit address (spec 00_scope.md R9, R10). -/

namespace Sys2Proof

/-- An 8-bit value: A, X, Y, S, P, the bus data, the scratch registers `v` and `v2` (R9, R30, R44). -/
abbrev Byte := BitVec 8

/-- A 16-bit value: PC, the bus address, the working address `w` (R9, R30, R44). -/
abbrev Addr := BitVec 16

end Sys2Proof
end

