-- ==== Sys2Proof/Machine/Bits.lean ====
section
/-! DEFINITION. The byte and address helpers of spec 00_scope.md R10: `hi:lo`, the two halves of a 16-bit value, and
the two widenings of a byte. -/

namespace Sys2Proof

/-- R10, R77: `hi:lo`, the 16-bit value `hi * 256 + lo`. -/
def mk16 (hi lo : Byte) : Addr := hi ++ lo

/-- R10: `x[15:8]`. -/
def hi8 (x : Addr) : Byte := x.extractLsb' 8 8

/-- R10: `x[7:0]`. -/
def lo8 (x : Addr) : Byte := x.extractLsb' 0 8

/-- R10: `sext16(b)`, the byte read as two's complement and widened to 16 bits. -/
def sext16 (b : Byte) : Addr := b.signExtend 16

/-- R10: `zext16(b)`, the byte widened with zero high bits. -/
def zext16 (b : Byte) : Addr := b.setWidth 16

end Sys2Proof
end

