-- ==== Sys2Proof/Syntax.lean ====
section
/-! DEFINITION. The instructions: one constructor for each of the 151 rows of spec/opcode_table.json
(30_encoding.md R103, R105). A row is an opcode byte; the operand bytes that follow it in memory are not part of
what decode looks at (R100, R241), so a constructor carries none: `Insn` (Machine/Formats.lean) pairs an
instruction with its operand, and the core reads the operand bytes one bus cycle at a time. -/

namespace Sys2Proof

/-- The instruction table's entries, in the order of the rules R301 to R414. -/
inductive Instr where
  /-- `0xA9` `LDA #$nn` (R301). -/
  | ldaImm
  /-- `0xA5` `LDA $nn` (R301). -/
  | ldaZp
  /-- `0xB5` `LDA $nn,X` (R301). -/
  | ldaZpx
  /-- `0xAD` `LDA $nnnn` (R301). -/
  | ldaAbs
  /-- `0xBD` `LDA $nnnn,X` (R301). -/
  | ldaAbx
  /-- `0xB9` `LDA $nnnn,Y` (R301). -/
  | ldaAby
  /-- `0xA1` `LDA ($nn,X)` (R301). -/
  | ldaIzx
  /-- `0xB1` `LDA ($nn),Y` (R301). -/
  | ldaIzy
  /-- `0xA2` `LDX #$nn` (R302). -/
  | ldxImm
  /-- `0xA6` `LDX $nn` (R302). -/
  | ldxZp
  /-- `0xB6` `LDX $nn,Y` (R302). -/
  | ldxZpy
  /-- `0xAE` `LDX $nnnn` (R302). -/
  | ldxAbs
  /-- `0xBE` `LDX $nnnn,Y` (R302). -/
  | ldxAby
  /-- `0xA0` `LDY #$nn` (R303). -/
  | ldyImm
  /-- `0xA4` `LDY $nn` (R303). -/
  | ldyZp
  /-- `0xB4` `LDY $nn,X` (R303). -/
  | ldyZpx
  /-- `0xAC` `LDY $nnnn` (R303). -/
  | ldyAbs
  /-- `0xBC` `LDY $nnnn,X` (R303). -/
  | ldyAbx
  /-- `0x85` `STA $nn` (R304). -/
  | staZp
  /-- `0x95` `STA $nn,X` (R304). -/
  | staZpx
  /-- `0x8D` `STA $nnnn` (R304). -/
  | staAbs
  /-- `0x9D` `STA $nnnn,X` (R304). -/
  | staAbx
  /-- `0x99` `STA $nnnn,Y` (R304). -/
  | staAby
  /-- `0x81` `STA ($nn,X)` (R304). -/
  | staIzx
  /-- `0x91` `STA ($nn),Y` (R304). -/
  | staIzy
  /-- `0x86` `STX $nn` (R305). -/
  | stxZp
  /-- `0x96` `STX $nn,Y` (R305). -/
  | stxZpy
  /-- `0x8E` `STX $nnnn` (R305). -/
  | stxAbs
  /-- `0x84` `STY $nn` (R306). -/
  | styZp
  /-- `0x94` `STY $nn,X` (R306). -/
  | styZpx
  /-- `0x8C` `STY $nnnn` (R306). -/
  | styAbs
  /-- `0x69` `ADC #$nn` (R321). -/
  | adcImm
  /-- `0x65` `ADC $nn` (R321). -/
  | adcZp
  /-- `0x75` `ADC $nn,X` (R321). -/
  | adcZpx
  /-- `0x6D` `ADC $nnnn` (R321). -/
  | adcAbs
  /-- `0x7D` `ADC $nnnn,X` (R321). -/
  | adcAbx
  /-- `0x79` `ADC $nnnn,Y` (R321). -/
  | adcAby
  /-- `0x61` `ADC ($nn,X)` (R321). -/
  | adcIzx
  /-- `0x71` `ADC ($nn),Y` (R321). -/
  | adcIzy
  /-- `0xE9` `SBC #$nn` (R325). -/
  | sbcImm
  /-- `0xE5` `SBC $nn` (R325). -/
  | sbcZp
  /-- `0xF5` `SBC $nn,X` (R325). -/
  | sbcZpx
  /-- `0xED` `SBC $nnnn` (R325). -/
  | sbcAbs
  /-- `0xFD` `SBC $nnnn,X` (R325). -/
  | sbcAbx
  /-- `0xF9` `SBC $nnnn,Y` (R325). -/
  | sbcAby
  /-- `0xE1` `SBC ($nn,X)` (R325). -/
  | sbcIzx
  /-- `0xF1` `SBC ($nn),Y` (R325). -/
  | sbcIzy
  /-- `0x29` `AND #$nn` (R327). -/
  | andImm
  /-- `0x25` `AND $nn` (R327). -/
  | andZp
  /-- `0x35` `AND $nn,X` (R327). -/
  | andZpx
  /-- `0x2D` `AND $nnnn` (R327). -/
  | andAbs
  /-- `0x3D` `AND $nnnn,X` (R327). -/
  | andAbx
  /-- `0x39` `AND $nnnn,Y` (R327). -/
  | andAby
  /-- `0x21` `AND ($nn,X)` (R327). -/
  | andIzx
  /-- `0x31` `AND ($nn),Y` (R327). -/
  | andIzy
  /-- `0x09` `ORA #$nn` (R328). -/
  | oraImm
  /-- `0x05` `ORA $nn` (R328). -/
  | oraZp
  /-- `0x15` `ORA $nn,X` (R328). -/
  | oraZpx
  /-- `0x0D` `ORA $nnnn` (R328). -/
  | oraAbs
  /-- `0x1D` `ORA $nnnn,X` (R328). -/
  | oraAbx
  /-- `0x19` `ORA $nnnn,Y` (R328). -/
  | oraAby
  /-- `0x01` `ORA ($nn,X)` (R328). -/
  | oraIzx
  /-- `0x11` `ORA ($nn),Y` (R328). -/
  | oraIzy
  /-- `0x49` `EOR #$nn` (R329). -/
  | eorImm
  /-- `0x45` `EOR $nn` (R329). -/
  | eorZp
  /-- `0x55` `EOR $nn,X` (R329). -/
  | eorZpx
  /-- `0x4D` `EOR $nnnn` (R329). -/
  | eorAbs
  /-- `0x5D` `EOR $nnnn,X` (R329). -/
  | eorAbx
  /-- `0x59` `EOR $nnnn,Y` (R329). -/
  | eorAby
  /-- `0x41` `EOR ($nn,X)` (R329). -/
  | eorIzx
  /-- `0x51` `EOR ($nn),Y` (R329). -/
  | eorIzy
  /-- `0xC9` `CMP #$nn` (R330). -/
  | cmpImm
  /-- `0xC5` `CMP $nn` (R330). -/
  | cmpZp
  /-- `0xD5` `CMP $nn,X` (R330). -/
  | cmpZpx
  /-- `0xCD` `CMP $nnnn` (R330). -/
  | cmpAbs
  /-- `0xDD` `CMP $nnnn,X` (R330). -/
  | cmpAbx
  /-- `0xD9` `CMP $nnnn,Y` (R330). -/
  | cmpAby
  /-- `0xC1` `CMP ($nn,X)` (R330). -/
  | cmpIzx
  /-- `0xD1` `CMP ($nn),Y` (R330). -/
  | cmpIzy
  /-- `0xE0` `CPX #$nn` (R331). -/
  | cpxImm
  /-- `0xE4` `CPX $nn` (R331). -/
  | cpxZp
  /-- `0xEC` `CPX $nnnn` (R331). -/
  | cpxAbs
  /-- `0xC0` `CPY #$nn` (R332). -/
  | cpyImm
  /-- `0xC4` `CPY $nn` (R332). -/
  | cpyZp
  /-- `0xCC` `CPY $nnnn` (R332). -/
  | cpyAbs
  /-- `0x24` `BIT $nn` (R333). -/
  | bitZp
  /-- `0x2C` `BIT $nnnn` (R333). -/
  | bitAbs
  /-- `0x0A` `ASL A` (R351). -/
  | aslAcc
  /-- `0x06` `ASL $nn` (R351). -/
  | aslZp
  /-- `0x16` `ASL $nn,X` (R351). -/
  | aslZpx
  /-- `0x0E` `ASL $nnnn` (R351). -/
  | aslAbs
  /-- `0x1E` `ASL $nnnn,X` (R351). -/
  | aslAbx
  /-- `0x4A` `LSR A` (R352). -/
  | lsrAcc
  /-- `0x46` `LSR $nn` (R352). -/
  | lsrZp
  /-- `0x56` `LSR $nn,X` (R352). -/
  | lsrZpx
  /-- `0x4E` `LSR $nnnn` (R352). -/
  | lsrAbs
  /-- `0x5E` `LSR $nnnn,X` (R352). -/
  | lsrAbx
  /-- `0x2A` `ROL A` (R353). -/
  | rolAcc
  /-- `0x26` `ROL $nn` (R353). -/
  | rolZp
  /-- `0x36` `ROL $nn,X` (R353). -/
  | rolZpx
  /-- `0x2E` `ROL $nnnn` (R353). -/
  | rolAbs
  /-- `0x3E` `ROL $nnnn,X` (R353). -/
  | rolAbx
  /-- `0x6A` `ROR A` (R354). -/
  | rorAcc
  /-- `0x66` `ROR $nn` (R354). -/
  | rorZp
  /-- `0x76` `ROR $nn,X` (R354). -/
  | rorZpx
  /-- `0x6E` `ROR $nnnn` (R354). -/
  | rorAbs
  /-- `0x7E` `ROR $nnnn,X` (R354). -/
  | rorAbx
  /-- `0xE6` `INC $nn` (R355). -/
  | incZp
  /-- `0xF6` `INC $nn,X` (R355). -/
  | incZpx
  /-- `0xEE` `INC $nnnn` (R355). -/
  | incAbs
  /-- `0xFE` `INC $nnnn,X` (R355). -/
  | incAbx
  /-- `0xC6` `DEC $nn` (R356). -/
  | decZp
  /-- `0xD6` `DEC $nn,X` (R356). -/
  | decZpx
  /-- `0xCE` `DEC $nnnn` (R356). -/
  | decAbs
  /-- `0xDE` `DEC $nnnn,X` (R356). -/
  | decAbx
  /-- `0xE8` `INX` (R357). -/
  | inx
  /-- `0xC8` `INY` (R358). -/
  | iny
  /-- `0xCA` `DEX` (R359). -/
  | dex
  /-- `0x88` `DEY` (R360). -/
  | dey
  /-- `0xAA` `TAX` (R371). -/
  | tax
  /-- `0xA8` `TAY` (R372). -/
  | tay
  /-- `0x8A` `TXA` (R373). -/
  | txa
  /-- `0x98` `TYA` (R374). -/
  | tya
  /-- `0xBA` `TSX` (R375). -/
  | tsx
  /-- `0x9A` `TXS` (R376). -/
  | txs
  /-- `0x18` `CLC` (R377). -/
  | clc
  /-- `0x38` `SEC` (R378). -/
  | sec
  /-- `0x58` `CLI` (R379). -/
  | cli
  /-- `0x78` `SEI` (R380). -/
  | sei
  /-- `0xD8` `CLD` (R381). -/
  | cld
  /-- `0xF8` `SED` (R382). -/
  | sed
  /-- `0xB8` `CLV` (R383). -/
  | clv
  /-- `0xEA` `NOP` (R384). -/
  | nop
  /-- `0x10` `BPL label` (R392). -/
  | bpl
  /-- `0x30` `BMI label` (R393). -/
  | bmi
  /-- `0x50` `BVC label` (R394). -/
  | bvc
  /-- `0x70` `BVS label` (R395). -/
  | bvs
  /-- `0x90` `BCC label` (R396). -/
  | bcc
  /-- `0xB0` `BCS label` (R397). -/
  | bcs
  /-- `0xD0` `BNE label` (R398). -/
  | bne
  /-- `0xF0` `BEQ label` (R399). -/
  | beq
  /-- `0x48` `PHA` (R400). -/
  | pha
  /-- `0x08` `PHP` (R401). -/
  | php
  /-- `0x68` `PLA` (R402). -/
  | pla
  /-- `0x28` `PLP` (R403). -/
  | plp
  /-- `0x4C` `JMP $nnnn` (R410). -/
  | jmpAbs
  /-- `0x6C` `JMP ($nnnn)` (R410). -/
  | jmpInd
  /-- `0x20` `JSR $nnnn` (R411). -/
  | jsrAbs
  /-- `0x60` `RTS` (R412). -/
  | rts
  /-- `0x40` `RTI` (R413). -/
  | rti
  /-- `0x00` `BRK` (R414). -/
  | brk
  deriving DecidableEq, Repr

end Sys2Proof
end

