-- ==== Sys2Proof/Machine/Formats.lean ====
section
/-! DEFINITION. The thirteen addressing modes with their formats (30_encoding.md R101, R102), the 56 mnemonics
(R103, R105), and the mode and the mnemonic of every table entry (R109). -/

namespace Sys2Proof

/-- The addressing-mode tags of R101, in its order. -/
inductive Mode where
  | imp
  | acc
  | imm
  | zp
  | zpx
  | zpy
  | abs
  | abx
  | aby
  | ind
  | izx
  | izy
  | rel
  deriving DecidableEq, Repr

/-- The 56 mnemonics of R103 (D20). -/
inductive Mnemonic where
  | brk
  | ora
  | asl
  | php
  | bpl
  | clc
  | jsr
  | and
  | bit
  | rol
  | plp
  | bmi
  | sec
  | rti
  | eor
  | lsr
  | pha
  | jmp
  | bvc
  | cli
  | rts
  | adc
  | ror
  | pla
  | bvs
  | sei
  | sta
  | sty
  | stx
  | dey
  | txa
  | bcc
  | tya
  | txs
  | ldy
  | lda
  | ldx
  | tay
  | tax
  | bcs
  | clv
  | tsx
  | cpy
  | cmp
  | dec
  | iny
  | dex
  | bne
  | cld
  | cpx
  | sbc
  | inc
  | inx
  | nop
  | beq
  | sed
  deriving DecidableEq, Repr

/-- The operand of an instruction, one alternative for each kind of operand field in R101. -/
inductive Operand where
  /-- `imp`, `acc`: no operand byte. -/
  | none
  /-- `imm`: the operand byte itself. -/
  | imm8 (b : Byte)
  /-- `zp`, `zpx`, `zpy`, `izx`, `izy`: a zero-page address. -/
  | zp8 (b : Byte)
  /-- `abs`, `abx`, `aby`: a 16-bit address, low byte first. -/
  | addr (w : Addr)
  /-- `ind`: a 16-bit pointer, low byte first. -/
  | ptr (w : Addr)
  /-- `rel`: a signed offset from the next instruction. -/
  | off8 (b : Byte)
  deriving DecidableEq, Repr

/-- An instruction as it stands in memory: a table entry with its operand. -/
structure Insn where
  instr : Instr
  operand : Operand
  deriving DecidableEq, Repr

/-- R109: the `mode` of a table entry. -/
def Instr.mode : Instr → Mode
  | .ldaImm => .imm
  | .ldaZp => .zp
  | .ldaZpx => .zpx
  | .ldaAbs => .abs
  | .ldaAbx => .abx
  | .ldaAby => .aby
  | .ldaIzx => .izx
  | .ldaIzy => .izy
  | .ldxImm => .imm
  | .ldxZp => .zp
  | .ldxZpy => .zpy
  | .ldxAbs => .abs
  | .ldxAby => .aby
  | .ldyImm => .imm
  | .ldyZp => .zp
  | .ldyZpx => .zpx
  | .ldyAbs => .abs
  | .ldyAbx => .abx
  | .staZp => .zp
  | .staZpx => .zpx
  | .staAbs => .abs
  | .staAbx => .abx
  | .staAby => .aby
  | .staIzx => .izx
  | .staIzy => .izy
  | .stxZp => .zp
  | .stxZpy => .zpy
  | .stxAbs => .abs
  | .styZp => .zp
  | .styZpx => .zpx
  | .styAbs => .abs
  | .adcImm => .imm
  | .adcZp => .zp
  | .adcZpx => .zpx
  | .adcAbs => .abs
  | .adcAbx => .abx
  | .adcAby => .aby
  | .adcIzx => .izx
  | .adcIzy => .izy
  | .sbcImm => .imm
  | .sbcZp => .zp
  | .sbcZpx => .zpx
  | .sbcAbs => .abs
  | .sbcAbx => .abx
  | .sbcAby => .aby
  | .sbcIzx => .izx
  | .sbcIzy => .izy
  | .andImm => .imm
  | .andZp => .zp
  | .andZpx => .zpx
  | .andAbs => .abs
  | .andAbx => .abx
  | .andAby => .aby
  | .andIzx => .izx
  | .andIzy => .izy
  | .oraImm => .imm
  | .oraZp => .zp
  | .oraZpx => .zpx
  | .oraAbs => .abs
  | .oraAbx => .abx
  | .oraAby => .aby
  | .oraIzx => .izx
  | .oraIzy => .izy
  | .eorImm => .imm
  | .eorZp => .zp
  | .eorZpx => .zpx
  | .eorAbs => .abs
  | .eorAbx => .abx
  | .eorAby => .aby
  | .eorIzx => .izx
  | .eorIzy => .izy
  | .cmpImm => .imm
  | .cmpZp => .zp
  | .cmpZpx => .zpx
  | .cmpAbs => .abs
  | .cmpAbx => .abx
  | .cmpAby => .aby
  | .cmpIzx => .izx
  | .cmpIzy => .izy
  | .cpxImm => .imm
  | .cpxZp => .zp
  | .cpxAbs => .abs
  | .cpyImm => .imm
  | .cpyZp => .zp
  | .cpyAbs => .abs
  | .bitZp => .zp
  | .bitAbs => .abs
  | .aslAcc => .acc
  | .aslZp => .zp
  | .aslZpx => .zpx
  | .aslAbs => .abs
  | .aslAbx => .abx
  | .lsrAcc => .acc
  | .lsrZp => .zp
  | .lsrZpx => .zpx
  | .lsrAbs => .abs
  | .lsrAbx => .abx
  | .rolAcc => .acc
  | .rolZp => .zp
  | .rolZpx => .zpx
  | .rolAbs => .abs
  | .rolAbx => .abx
  | .rorAcc => .acc
  | .rorZp => .zp
  | .rorZpx => .zpx
  | .rorAbs => .abs
  | .rorAbx => .abx
  | .incZp => .zp
  | .incZpx => .zpx
  | .incAbs => .abs
  | .incAbx => .abx
  | .decZp => .zp
  | .decZpx => .zpx
  | .decAbs => .abs
  | .decAbx => .abx
  | .inx => .imp
  | .iny => .imp
  | .dex => .imp
  | .dey => .imp
  | .tax => .imp
  | .tay => .imp
  | .txa => .imp
  | .tya => .imp
  | .tsx => .imp
  | .txs => .imp
  | .clc => .imp
  | .sec => .imp
  | .cli => .imp
  | .sei => .imp
  | .cld => .imp
  | .sed => .imp
  | .clv => .imp
  | .nop => .imp
  | .bpl => .rel
  | .bmi => .rel
  | .bvc => .rel
  | .bvs => .rel
  | .bcc => .rel
  | .bcs => .rel
  | .bne => .rel
  | .beq => .rel
  | .pha => .imp
  | .php => .imp
  | .pla => .imp
  | .plp => .imp
  | .jmpAbs => .abs
  | .jmpInd => .ind
  | .jsrAbs => .abs
  | .rts => .imp
  | .rti => .imp
  | .brk => .imp

/-- R109: the `mnemonic` of a table entry. -/
def Instr.mnemonic : Instr → Mnemonic
  | .ldaImm => .lda
  | .ldaZp => .lda
  | .ldaZpx => .lda
  | .ldaAbs => .lda
  | .ldaAbx => .lda
  | .ldaAby => .lda
  | .ldaIzx => .lda
  | .ldaIzy => .lda
  | .ldxImm => .ldx
  | .ldxZp => .ldx
  | .ldxZpy => .ldx
  | .ldxAbs => .ldx
  | .ldxAby => .ldx
  | .ldyImm => .ldy
  | .ldyZp => .ldy
  | .ldyZpx => .ldy
  | .ldyAbs => .ldy
  | .ldyAbx => .ldy
  | .staZp => .sta
  | .staZpx => .sta
  | .staAbs => .sta
  | .staAbx => .sta
  | .staAby => .sta
  | .staIzx => .sta
  | .staIzy => .sta
  | .stxZp => .stx
  | .stxZpy => .stx
  | .stxAbs => .stx
  | .styZp => .sty
  | .styZpx => .sty
  | .styAbs => .sty
  | .adcImm => .adc
  | .adcZp => .adc
  | .adcZpx => .adc
  | .adcAbs => .adc
  | .adcAbx => .adc
  | .adcAby => .adc
  | .adcIzx => .adc
  | .adcIzy => .adc
  | .sbcImm => .sbc
  | .sbcZp => .sbc
  | .sbcZpx => .sbc
  | .sbcAbs => .sbc
  | .sbcAbx => .sbc
  | .sbcAby => .sbc
  | .sbcIzx => .sbc
  | .sbcIzy => .sbc
  | .andImm => .and
  | .andZp => .and
  | .andZpx => .and
  | .andAbs => .and
  | .andAbx => .and
  | .andAby => .and
  | .andIzx => .and
  | .andIzy => .and
  | .oraImm => .ora
  | .oraZp => .ora
  | .oraZpx => .ora
  | .oraAbs => .ora
  | .oraAbx => .ora
  | .oraAby => .ora
  | .oraIzx => .ora
  | .oraIzy => .ora
  | .eorImm => .eor
  | .eorZp => .eor
  | .eorZpx => .eor
  | .eorAbs => .eor
  | .eorAbx => .eor
  | .eorAby => .eor
  | .eorIzx => .eor
  | .eorIzy => .eor
  | .cmpImm => .cmp
  | .cmpZp => .cmp
  | .cmpZpx => .cmp
  | .cmpAbs => .cmp
  | .cmpAbx => .cmp
  | .cmpAby => .cmp
  | .cmpIzx => .cmp
  | .cmpIzy => .cmp
  | .cpxImm => .cpx
  | .cpxZp => .cpx
  | .cpxAbs => .cpx
  | .cpyImm => .cpy
  | .cpyZp => .cpy
  | .cpyAbs => .cpy
  | .bitZp => .bit
  | .bitAbs => .bit
  | .aslAcc => .asl
  | .aslZp => .asl
  | .aslZpx => .asl
  | .aslAbs => .asl
  | .aslAbx => .asl
  | .lsrAcc => .lsr
  | .lsrZp => .lsr
  | .lsrZpx => .lsr
  | .lsrAbs => .lsr
  | .lsrAbx => .lsr
  | .rolAcc => .rol
  | .rolZp => .rol
  | .rolZpx => .rol
  | .rolAbs => .rol
  | .rolAbx => .rol
  | .rorAcc => .ror
  | .rorZp => .ror
  | .rorZpx => .ror
  | .rorAbs => .ror
  | .rorAbx => .ror
  | .incZp => .inc
  | .incZpx => .inc
  | .incAbs => .inc
  | .incAbx => .inc
  | .decZp => .dec
  | .decZpx => .dec
  | .decAbs => .dec
  | .decAbx => .dec
  | .inx => .inx
  | .iny => .iny
  | .dex => .dex
  | .dey => .dey
  | .tax => .tax
  | .tay => .tay
  | .txa => .txa
  | .tya => .tya
  | .tsx => .tsx
  | .txs => .txs
  | .clc => .clc
  | .sec => .sec
  | .cli => .cli
  | .sei => .sei
  | .cld => .cld
  | .sed => .sed
  | .clv => .clv
  | .nop => .nop
  | .bpl => .bpl
  | .bmi => .bmi
  | .bvc => .bvc
  | .bvs => .bvs
  | .bcc => .bcc
  | .bcs => .bcs
  | .bne => .bne
  | .beq => .beq
  | .pha => .pha
  | .php => .php
  | .pla => .pla
  | .plp => .plp
  | .jmpAbs => .jmp
  | .jmpInd => .jmp
  | .jsrAbs => .jsr
  | .rts => .rts
  | .rti => .rti
  | .brk => .brk

/-- R101: how many operand bytes follow the opcode byte. -/
def Mode.operandBytes : Mode → Nat
  | .imp => 0
  | .acc => 0
  | .imm => 1
  | .zp => 1
  | .zpx => 1
  | .zpy => 1
  | .abs => 2
  | .abx => 2
  | .aby => 2
  | .ind => 2
  | .izx => 1
  | .izy => 1
  | .rel => 1

/-- R100: the length of an instruction is a function of its opcode alone. -/
def Instr.length (i : Instr) : Nat := 1 + i.mode.operandBytes

/-- R101: whether an operand is of the kind the mode's format has. -/
def Mode.fits : Mode → Operand → Bool
  | .imp, .none => true
  | .acc, .none => true
  | .imm, .imm8 _ => true
  | .zp, .zp8 _ => true
  | .zpx, .zp8 _ => true
  | .zpy, .zp8 _ => true
  | .abs, .addr _ => true
  | .abx, .addr _ => true
  | .aby, .addr _ => true
  | .ind, .ptr _ => true
  | .izx, .zp8 _ => true
  | .izy, .zp8 _ => true
  | .rel, .off8 _ => true
  | _, _ => false

/-- R102, R77: the bytes of an operand in memory order, low byte of a 16-bit field first. -/
def Operand.bytes : Operand → List Byte
  | .none => []
  | .imm8 b => [b]
  | .zp8 b => [b]
  | .addr w => [lo8 w, hi8 w]
  | .ptr w => [lo8 w, hi8 w]
  | .off8 b => [b]

/-- R102: the target of a branch whose opcode byte stands at `a`: the address of the next instruction, `a + 2`,
plus the signed offset, mod 2^16. -/
def branchTarget (a : Addr) (off8 : Byte) : Addr := a + 2 + sext16 off8

end Sys2Proof
end

