-- ==== Sys2Proof/Config.lean ====
section
/-! DEFINITION. What is fixed for the machine and not changed by any instruction: the parameters of
spec 00_scope.md R9, the constants of the address map (20_memory.md R82), and the free values that
`PARAM_DECIMAL = open` draws (44_arith_logic_compare.md R326). -/

namespace Sys2Proof

/-- `PARAM_DECIMAL` (R9, R326): `nmos`, the default, gives decimal ADC and SBC the algorithms of R322 and
R324; `openDraw` (the spec's `open`) leaves A and N, V, Z, C after a decimal ADC or SBC unconstrained. -/
inductive DecimalMode where
  | nmos
  | openDraw
  deriving DecidableEq, Repr

namespace Config

/-- The default of `PARAM_DECIMAL` (R9, D5). -/
def decimalDefault : DecimalMode := .nmos

/-- The byte the caller's memory answers for an address that nothing has written: 0x00, as
95_test_vectors.md ("Memory is 0x00 except the instruction bytes and the cells listed").
DESIGN CHOICE, unsafe: assumption log 4. -/
def unlistedByte : Byte := 0x00#8

/-- The address that holds the low byte of the BRK vector (R82, R414, D12). -/
def brkVectorLo : Addr := 0xFFFE#16

/-- The address that holds the high byte of the BRK vector (R82, R414, D12). -/
def brkVectorHi : Addr := 0xFFFF#16

/-- The high byte of every stack address: page 1 (R9, R36). -/
def stackPage : Byte := 0x01#8

/-- Free value: what A holds after the n-th decimal ADC or SBC drawn under `openDraw` (R326). No body:
nothing can evaluate it. Assumption log 6. -/
opaque openA : Nat → BitVec 8

/-- Free value: flag N after the n-th draw (R326). Assumption log 6. -/
opaque openN : Nat → Bool

/-- Free value: flag V after the n-th draw (R326). Assumption log 6. -/
opaque openV : Nat → Bool

/-- Free value: flag Z after the n-th draw (R326). Assumption log 6. -/
opaque openZ : Nat → Bool

/-- Free value: flag C after the n-th draw (R326). Assumption log 6. -/
opaque openC : Nat → Bool

end Config

end Sys2Proof
end

