-- ==== Sys2Proof/Machine/MicroOp.lean ====
section
/-! DEFINITION. The closed set of micro-op primitives (40_microops.md R140 to R192), as data with the parameters their
rules show. What each one does is `runMicro` (Machine/Ops.lean). -/

namespace Sys2Proof.Machine

/-- The index registers of `ADD_ZP` and `ADD_IDX` (R156, R159). -/
inductive Index where
  | x
  | y
  deriving DecidableEq, Repr

/-- The 8-bit registers of `V_TO` and `CMP_V` (R165, R191). `CMP_V` takes only a, x, y. -/
inductive Reg where
  | a
  | x
  | y
  | s
  deriving DecidableEq, Repr

/-- The sources of `V_FROM` (R164). -/
inductive Source where
  | a
  | x
  | y
  | s
  /-- `PC[15:8]` -/
  | pch
  /-- `PC[7:0]` -/
  | pcl
  /-- `P | 0x30`, the status read (R166) -/
  | pPush
  deriving DecidableEq, Repr

/-- The flags of P by name (10_state.md R38). -/
inductive Flag where
  | n
  | v
  | d
  | i
  | z
  | c
  deriving DecidableEq, Repr

/-- A micro-op: one primitive of R142 to R192. -/
inductive MicroOp where
  /-- `RD_PC` (R142) -/
  | rdPc
  /-- `RD_PC_INC` (R143) -/
  | rdPcInc
  /-- `RD_W` (R144) -/
  | rdW
  /-- `WR_W` (R145) -/
  | wrW
  /-- `LD_V` (R150) -/
  | ldV
  /-- `LD_V2` (R151) -/
  | ldV2
  /-- `LD_WZ` (R152) -/
  | ldWZ
  /-- `LD_WA` (R153) -/
  | ldWA
  /-- `LD_PC` (R154) -/
  | ldPc
  /-- `INC_W_PAGE` (R155) -/
  | incWPage
  /-- `ADD_ZP(r)` (R156) -/
  | addZp (r : Index)
  /-- `SP_TO_W` (R157) -/
  | spToW
  /-- `SET_W(k)` (R158) -/
  | setW (k : Addr)
  /-- `ADD_IDX(r)` (R159) -/
  | addIdx (r : Index)
  /-- `FIX_CROSS` (R160) -/
  | fixCross
  /-- `FIX_RD_IF_CROSS` (R161), conditional yield -/
  | fixRdIfCross
  /-- `INC_S` (R162) -/
  | incS
  /-- `DEC_S` (R163) -/
  | decS
  /-- `V_FROM(src)` (R164) -/
  | vFrom (src : Source)
  /-- `V_TO(dst)` (R165) -/
  | vTo (dst : Reg)
  /-- `P_FROM_V` (R167) -/
  | pFromV
  /-- `NZ_V` (R168) -/
  | nzV
  /-- `SETF(f, b)` (R170) -/
  | setF (f : Flag) (b : Bool)
  /-- `BR_TEST(f, b)` (R175), conditional yield -/
  | brTest (f : Flag) (b : Bool)
  /-- `BR_FIX` (R176), conditional yield -/
  | brFix
  /-- `BR_COMMIT` (R177) -/
  | brCommit
  /-- `DONE` (R178) -/
  | done
  /-- `ASL_V` (R180) -/
  | aslV
  /-- `LSR_V` (R181) -/
  | lsrV
  /-- `ROL_V` (R182) -/
  | rolV
  /-- `ROR_V` (R183) -/
  | rorV
  /-- `INC_V` (R184) -/
  | incV
  /-- `DEC_V` (R185) -/
  | decV
  /-- `ORA_V` (R186) -/
  | oraV
  /-- `AND_V` (R187) -/
  | andV
  /-- `EOR_V` (R188) -/
  | eorV
  /-- `ADC_V` (R189) -/
  | adcV
  /-- `SBC_V` (R190) -/
  | sbcV
  /-- `CMP_V(r)` (R191) -/
  | cmpV (r : Reg)
  /-- `BIT_V` (R192) -/
  | bitV
  deriving DecidableEq, Repr

end Sys2Proof.Machine
end

