-- ==== Sys2Proof/Machine/SeqShape.lean ====
section
/-! DEFINITION. The classes of micro-ops that the well-formedness conditions of 42_decode_scheduler.md R246 speak of,
and the five conditions themselves as Bool checks over a sequence. -/

namespace Sys2Proof.Machine

/-- R142 to R145, R161, R175, R176: the primitives that yield always or on a condition. -/
def mayYield : MicroOp → Bool
  | .rdPc => true
  | .rdPcInc => true
  | .rdW => true
  | .wrW => true
  | .fixRdIfCross => true
  | .brTest _ _ => true
  | .brFix => true
  | _ => false

/-- R150 to R154: the latch primitives. -/
def isLatch : MicroOp → Bool
  | .ldV => true
  | .ldV2 => true
  | .ldWZ => true
  | .ldWA => true
  | .ldPc => true
  | _ => false

/-- R160, R161: the primitives that consume `wc`. -/
def isFix : MicroOp → Bool
  | .fixCross => true
  | .fixRdIfCross => true
  | _ => false

/-- R159. -/
def isAddIdx : MicroOp → Bool
  | .addIdx _ => true
  | _ => false

/-- R175. -/
def isBrTest : MicroOp → Bool
  | .brTest _ _ => true
  | _ => false

/-- R176, R177: the primitives that finish a pending branch. -/
def isBrEnd : MicroOp → Bool
  | .brFix => true
  | .brCommit => true
  | _ => false

/-- The parameters a primitive may have: `SETF` a flag of {C, I, D, V} (R170), `BR_TEST` a flag of {N, V, C, Z} (R175),
`SET_W` one of the two vector addresses (R158), `CMP_V` a register of {A, X, Y} (R191). -/
def paramsOk : MicroOp → Bool
  | .setF f _ => f != .n && f != .z
  | .brTest f _ => f != .d && f != .i
  | .setW k => k == Config.brkVectorLo || k == Config.brkVectorHi
  | .cmpV r => r != .s
  | _ => true

/-- R246 (1): the first micro-op is `RD_PC` or `RD_PC_INC`. -/
def startsWithFetch : List MicroOp → Bool
  | .rdPc :: _ => true
  | .rdPcInc :: _ => true
  | _ => false

/-- R246 (2): the last micro-op neither yields nor may yield. -/
def endsFree : List MicroOp → Bool
  | [] => false
  | [m] => !mayYield m
  | _ :: ms => endsFree ms

/-- R246 (3): every latch comes when the transaction the sequence issued last is a read. `pending` says whether it is. -/
def latchesRead (pending : Bool) : List MicroOp → Bool
  | [] => true
  | m :: ms => (!isLatch m || pending) && latchesRead (if mayYield m then m != .wrW else pending) ms

/-- R246 (4): at most one `ADD_IDX`, and a later `FIX_CROSS` or `FIX_RD_IF_CROSS` consumes `wc`. -/
def carryConsumed : List MicroOp → Bool
  | [] => true
  | m :: ms => if isAddIdx m then !ms.any isAddIdx && ms.any isFix else carryConsumed ms

/-- R246 (5): `BR_TEST` is followed by `BR_FIX` and then `BR_COMMIT`, and these two stand nowhere else. -/
def branchClosed : List MicroOp → Bool
  | [] => true
  | .brTest _ _ :: .brFix :: .brCommit :: ms => branchClosed ms
  | m :: ms => !isBrTest m && !isBrEnd m && branchClosed ms

end Sys2Proof.Machine
end

