-- ==== Sys2Proof/WellFormed.lean ====
section
/-! DEFINITION. Well-formedness. An instruction in memory (`Insn`) is well formed when its operand is of the kind its
mode's format has (30_encoding.md R101). A micro-op sequence is well formed when it meets 42_decode_scheduler.md R246
and every primitive has a parameter its own rule allows. -/

namespace Sys2Proof

/-- R101: the operand is of the kind that the opcode's mode has. -/
def Insn.wf (x : Insn) : Bool := x.instr.mode.fits x.operand

/-- R246 with R110: what the sequence of a table entry satisfies. -/
def wfSeq (seq : List Machine.MicroOp) : Bool :=
  Machine.startsWithFetch seq && Machine.endsFree seq && Machine.latchesRead true seq &&
    Machine.carryConsumed seq && Machine.branchClosed seq && seq.all Machine.paramsOk

end Sys2Proof
end

