-- ==== Sys2Proof/Decode.lean ====
section
/-! DEFINITION. Decode and encode. The opcode map is R103's table, row for row; an instruction's operand is read as
R101 and R102 say; the encoder is written from the opcode bytes of spec/opcode_table.json. -/

namespace Sys2Proof

/-- Why a byte string is no instruction. -/
inductive DecodeError where
  /-- the opcode byte is one of the 105 of R106 -/
  | unknownOpcode (op : Byte)
  /-- the bytes end before the instruction does -/
  | truncated
  deriving DecidableEq, Repr

/-- R103: one row of the opcode map, by the high four bits of the opcode; the columns are the low four bits. -/
def opcodeRow : Nat → List (Option Instr)
  | 0 => [some .brk, some .oraIzx, none, none, none, some .oraZp, some .aslZp, none,
      some .php, some .oraImm, some .aslAcc, none, none, some .oraAbs, some .aslAbs, none]
  | 1 => [some .bpl, some .oraIzy, none, none, none, some .oraZpx, some .aslZpx, none,
      some .clc, some .oraAby, none, none, none, some .oraAbx, some .aslAbx, none]
  | 2 => [some .jsrAbs, some .andIzx, none, none, some .bitZp, some .andZp, some .rolZp, none,
      some .plp, some .andImm, some .rolAcc, none, some .bitAbs, some .andAbs, some .rolAbs, none]
  | 3 => [some .bmi, some .andIzy, none, none, none, some .andZpx, some .rolZpx, none,
      some .sec, some .andAby, none, none, none, some .andAbx, some .rolAbx, none]
  | 4 => [some .rti, some .eorIzx, none, none, none, some .eorZp, some .lsrZp, none,
      some .pha, some .eorImm, some .lsrAcc, none, some .jmpAbs, some .eorAbs, some .lsrAbs, none]
  | 5 => [some .bvc, some .eorIzy, none, none, none, some .eorZpx, some .lsrZpx, none,
      some .cli, some .eorAby, none, none, none, some .eorAbx, some .lsrAbx, none]
  | 6 => [some .rts, some .adcIzx, none, none, none, some .adcZp, some .rorZp, none,
      some .pla, some .adcImm, some .rorAcc, none, some .jmpInd, some .adcAbs, some .rorAbs, none]
  | 7 => [some .bvs, some .adcIzy, none, none, none, some .adcZpx, some .rorZpx, none,
      some .sei, some .adcAby, none, none, none, some .adcAbx, some .rorAbx, none]
  | 8 => [none, some .staIzx, none, none, some .styZp, some .staZp, some .stxZp, none,
      some .dey, none, some .txa, none, some .styAbs, some .staAbs, some .stxAbs, none]
  | 9 => [some .bcc, some .staIzy, none, none, some .styZpx, some .staZpx, some .stxZpy, none,
      some .tya, some .staAby, some .txs, none, none, some .staAbx, none, none]
  | 10 => [some .ldyImm, some .ldaIzx, some .ldxImm, none, some .ldyZp, some .ldaZp, some .ldxZp, none,
      some .tay, some .ldaImm, some .tax, none, some .ldyAbs, some .ldaAbs, some .ldxAbs, none]
  | 11 => [some .bcs, some .ldaIzy, none, none, some .ldyZpx, some .ldaZpx, some .ldxZpy, none,
      some .clv, some .ldaAby, some .tsx, none, some .ldyAbx, some .ldaAbx, some .ldxAby, none]
  | 12 => [some .cpyImm, some .cmpIzx, none, none, some .cpyZp, some .cmpZp, some .decZp, none,
      some .iny, some .cmpImm, some .dex, none, some .cpyAbs, some .cmpAbs, some .decAbs, none]
  | 13 => [some .bne, some .cmpIzy, none, none, none, some .cmpZpx, some .decZpx, none,
      some .cld, some .cmpAby, none, none, none, some .cmpAbx, some .decAbx, none]
  | 14 => [some .cpxImm, some .sbcIzx, none, none, some .cpxZp, some .sbcZp, some .incZp, none,
      some .inx, some .sbcImm, some .nop, none, some .cpxAbs, some .sbcAbs, some .incAbs, none]
  | 15 => [some .beq, some .sbcIzy, none, none, none, some .sbcZpx, some .incZpx, none,
      some .sed, some .sbcAby, none, none, none, some .sbcAbx, some .incAbx, none]
  | _ => []

/-- R103, R106, R241: the table look-up by opcode byte; `none` for the 105 opcodes with no entry. -/
def decodeOpcode (op : Byte) : Option Instr := (opcodeRow (op.toNat / 16)).getD (op.toNat % 16) none

/-- R101, R102: the operand that the mode's format reads from the bytes after the opcode, and the bytes left. -/
def decodeOperand : Mode → List Byte → Option (Operand × List Byte)
  | .imp, bs => some (.none, bs)
  | .acc, bs => some (.none, bs)
  | .imm, b :: bs => some (.imm8 b, bs)
  | .zp, b :: bs => some (.zp8 b, bs)
  | .zpx, b :: bs => some (.zp8 b, bs)
  | .zpy, b :: bs => some (.zp8 b, bs)
  | .abs, l :: h :: bs => some (.addr (mk16 h l), bs)
  | .abx, l :: h :: bs => some (.addr (mk16 h l), bs)
  | .aby, l :: h :: bs => some (.addr (mk16 h l), bs)
  | .ind, l :: h :: bs => some (.ptr (mk16 h l), bs)
  | .izx, b :: bs => some (.zp8 b, bs)
  | .izy, b :: bs => some (.zp8 b, bs)
  | .rel, b :: bs => some (.off8 b, bs)
  | _, _ => none

/-- R100 to R103: the instruction at the front of a byte string, with the bytes after it. Total: every byte string
decodes or is rejected by name. -/
def decode : List Byte → Except DecodeError (Insn × List Byte)
  | [] => .error .truncated
  | op :: bs =>
    match decodeOpcode op with
    | none => .error (.unknownOpcode op)
    | some i =>
      match decodeOperand i.mode bs with
      | none => .error .truncated
      | some (o, rest) => .ok (⟨i, o⟩, rest)

/-- The opcode byte of each instruction, from spec/opcode_table.json ("match"). -/
def Instr.opcode : Instr → Byte
  | .ldaImm => 0xA9#8
  | .ldaZp => 0xA5#8
  | .ldaZpx => 0xB5#8
  | .ldaAbs => 0xAD#8
  | .ldaAbx => 0xBD#8
  | .ldaAby => 0xB9#8
  | .ldaIzx => 0xA1#8
  | .ldaIzy => 0xB1#8
  | .ldxImm => 0xA2#8
  | .ldxZp => 0xA6#8
  | .ldxZpy => 0xB6#8
  | .ldxAbs => 0xAE#8
  | .ldxAby => 0xBE#8
  | .ldyImm => 0xA0#8
  | .ldyZp => 0xA4#8
  | .ldyZpx => 0xB4#8
  | .ldyAbs => 0xAC#8
  | .ldyAbx => 0xBC#8
  | .staZp => 0x85#8
  | .staZpx => 0x95#8
  | .staAbs => 0x8D#8
  | .staAbx => 0x9D#8
  | .staAby => 0x99#8
  | .staIzx => 0x81#8
  | .staIzy => 0x91#8
  | .stxZp => 0x86#8
  | .stxZpy => 0x96#8
  | .stxAbs => 0x8E#8
  | .styZp => 0x84#8
  | .styZpx => 0x94#8
  | .styAbs => 0x8C#8
  | .adcImm => 0x69#8
  | .adcZp => 0x65#8
  | .adcZpx => 0x75#8
  | .adcAbs => 0x6D#8
  | .adcAbx => 0x7D#8
  | .adcAby => 0x79#8
  | .adcIzx => 0x61#8
  | .adcIzy => 0x71#8
  | .sbcImm => 0xE9#8
  | .sbcZp => 0xE5#8
  | .sbcZpx => 0xF5#8
  | .sbcAbs => 0xED#8
  | .sbcAbx => 0xFD#8
  | .sbcAby => 0xF9#8
  | .sbcIzx => 0xE1#8
  | .sbcIzy => 0xF1#8
  | .andImm => 0x29#8
  | .andZp => 0x25#8
  | .andZpx => 0x35#8
  | .andAbs => 0x2D#8
  | .andAbx => 0x3D#8
  | .andAby => 0x39#8
  | .andIzx => 0x21#8
  | .andIzy => 0x31#8
  | .oraImm => 0x09#8
  | .oraZp => 0x05#8
  | .oraZpx => 0x15#8
  | .oraAbs => 0x0D#8
  | .oraAbx => 0x1D#8
  | .oraAby => 0x19#8
  | .oraIzx => 0x01#8
  | .oraIzy => 0x11#8
  | .eorImm => 0x49#8
  | .eorZp => 0x45#8
  | .eorZpx => 0x55#8
  | .eorAbs => 0x4D#8
  | .eorAbx => 0x5D#8
  | .eorAby => 0x59#8
  | .eorIzx => 0x41#8
  | .eorIzy => 0x51#8
  | .cmpImm => 0xC9#8
  | .cmpZp => 0xC5#8
  | .cmpZpx => 0xD5#8
  | .cmpAbs => 0xCD#8
  | .cmpAbx => 0xDD#8
  | .cmpAby => 0xD9#8
  | .cmpIzx => 0xC1#8
  | .cmpIzy => 0xD1#8
  | .cpxImm => 0xE0#8
  | .cpxZp => 0xE4#8
  | .cpxAbs => 0xEC#8
  | .cpyImm => 0xC0#8
  | .cpyZp => 0xC4#8
  | .cpyAbs => 0xCC#8
  | .bitZp => 0x24#8
  | .bitAbs => 0x2C#8
  | .aslAcc => 0x0A#8
  | .aslZp => 0x06#8
  | .aslZpx => 0x16#8
  | .aslAbs => 0x0E#8
  | .aslAbx => 0x1E#8
  | .lsrAcc => 0x4A#8
  | .lsrZp => 0x46#8
  | .lsrZpx => 0x56#8
  | .lsrAbs => 0x4E#8
  | .lsrAbx => 0x5E#8
  | .rolAcc => 0x2A#8
  | .rolZp => 0x26#8
  | .rolZpx => 0x36#8
  | .rolAbs => 0x2E#8
  | .rolAbx => 0x3E#8
  | .rorAcc => 0x6A#8
  | .rorZp => 0x66#8
  | .rorZpx => 0x76#8
  | .rorAbs => 0x6E#8
  | .rorAbx => 0x7E#8
  | .incZp => 0xE6#8
  | .incZpx => 0xF6#8
  | .incAbs => 0xEE#8
  | .incAbx => 0xFE#8
  | .decZp => 0xC6#8
  | .decZpx => 0xD6#8
  | .decAbs => 0xCE#8
  | .decAbx => 0xDE#8
  | .inx => 0xE8#8
  | .iny => 0xC8#8
  | .dex => 0xCA#8
  | .dey => 0x88#8
  | .tax => 0xAA#8
  | .tay => 0xA8#8
  | .txa => 0x8A#8
  | .tya => 0x98#8
  | .tsx => 0xBA#8
  | .txs => 0x9A#8
  | .clc => 0x18#8
  | .sec => 0x38#8
  | .cli => 0x58#8
  | .sei => 0x78#8
  | .cld => 0xD8#8
  | .sed => 0xF8#8
  | .clv => 0xB8#8
  | .nop => 0xEA#8
  | .bpl => 0x10#8
  | .bmi => 0x30#8
  | .bvc => 0x50#8
  | .bvs => 0x70#8
  | .bcc => 0x90#8
  | .bcs => 0xB0#8
  | .bne => 0xD0#8
  | .beq => 0xF0#8
  | .pha => 0x48#8
  | .php => 0x08#8
  | .pla => 0x68#8
  | .plp => 0x28#8
  | .jmpAbs => 0x4C#8
  | .jmpInd => 0x6C#8
  | .jsrAbs => 0x20#8
  | .rts => 0x60#8
  | .rti => 0x40#8
  | .brk => 0x00#8

/-- R100, R101: the bytes of an instruction: the opcode byte, then its operand bytes. -/
def encode (x : Insn) : List Byte := x.instr.opcode :: x.operand.bytes

/-- The instruction decoded from the table's bits: bit 0 is the least significant bit of the opcode byte, and the
operand bytes follow in bits 15..8 and 23..16; bits above `nbits` are 0. -/
def decodeTableWord (nbits w : Nat) : Option Instr :=
  let n := w % 2 ^ nbits
  match decode [BitVec.ofNat 8 n, BitVec.ofNat 8 (n / 256), BitVec.ofNat 8 (n / 65536)] with
  | .ok (x, _) => some x.instr
  | .error _ => none

end Sys2Proof
end

