-- ==== Sys2Proof/Machine/Memory.lean ====
section
/-! DEFINITION. The caller's memory as plain data: the 65536 byte locations of 20_memory.md R70, held as the list of
the (address, byte) pairs that differ from what an unlisted address reads as. It answers the transactions of the
core (R73) as a plain RAM (92_eei_decisions.md D23). -/

namespace Sys2Proof.Machine

/-- The listed cells: addresses strictly rising, none with the value of an unlisted address (`Memory.wf`). -/
abbrev Memory := List Host.Cell

/-- R73: the caller's `MemRead`. -/
def Memory.read : Memory → Nat → Byte
  | [], _ => Config.unlistedByte
  | (k, b) :: m, a => if a = k then b else Memory.read m a

/-- R73: the caller's `MemWrite`, keeping the canonical form. -/
def Memory.write : Memory → Nat → Byte → Memory
  | [], a, v => if v = Config.unlistedByte then [] else [(a, v)]
  | (k, b) :: m, a, v =>
    if a < k then (if v = Config.unlistedByte then (k, b) :: m else (a, v) :: (k, b) :: m)
    else if a = k then (if v = Config.unlistedByte then m else (a, v) :: m)
    else (k, b) :: Memory.write m a v

/-- The listed addresses are at least `lo`, strictly rising and inside the address space, and no cell holds the value of
an unlisted address. -/
def Memory.wfFrom : Nat → Memory → Bool
  | _, [] => true
  | lo, (k, b) :: m => decide (lo ≤ k) && decide (k < 65536) && (b != Config.unlistedByte) && Memory.wfFrom (k + 1) m

/-- The canonical form, so that equal memories are equal lists. -/
def Memory.wf (m : Memory) : Bool := Memory.wfFrom 0 m

/-- The byte at a 16-bit address. -/
def Memory.at (m : Memory) (a : Addr) : Byte := m.read a.toNat

/-- The memory with one byte written at a 16-bit address. -/
def Memory.put (m : Memory) (a : Addr) (b : Byte) : Memory := m.write a.toNat b

end Sys2Proof.Machine
end

