-- ==== Sys2Proof/Machine/State.lean ====
section
/-! DEFINITION. The state of the machine as plain data: every field of 10_state.md R30, R44 and R46, the bus record of
20_memory.md R72 that stands beside it (R47), the caller's memory (D23), and the model's own fields: the trace
of serviced transactions (R250) and the decimal parameter with its draw counter (R326). -/

namespace Sys2Proof.Machine

/-- R72: the bus transaction record. -/
structure Bus where
  /-- the address of this cycle's access -/
  address : Addr
  /-- the byte read or written -/
  data : Byte
  /-- the direction of this cycle's access -/
  isWrite : Bool
  deriving DecidableEq, Repr

/-- The whole machine between two clock cycles. -/
structure State where
  /-- R35: the program counter PC -/
  pc : Addr
  /-- R36: the stack pointer S, an offset from page 1 -/
  sp : Byte
  /-- R32: the accumulator A -/
  a : Byte
  /-- R33: index register X -/
  x : Byte
  /-- R34: index register Y -/
  y : Byte
  /-- R37 to R39: the status register P, all eight bits stored -/
  p : Byte
  /-- R44: the working value `v` -/
  v : Byte
  /-- R44: the secondary value `v2` -/
  v2 : Byte
  /-- R44: the working address `w` -/
  w : Addr
  /-- R44: the page-cross latch `wc` (`w_carry`) -/
  wc : Bool
  /-- R44: the pending branch target `bt` -/
  bt : Option Addr
  /-- R46: the currently decoded opcode -/
  opcode : Byte
  /-- R46: the micro-op sequence of that opcode, empty before the first decode -/
  seq : List MicroOp
  /-- R46: the source's `step`, the index into `seq` -/
  cursor : Nat
  /-- R46: the transient yield flag, false between calls -/
  yield : Bool
  /-- R46: the sticky unknown-opcode fault (D6) -/
  fault : Bool
  /-- R46: the byte that raised the fault (D6) -/
  faultOpcode : Byte
  /-- R47, R72: the pending bus transaction -/
  bus : Bus
  /-- R71, D23: the caller's memory -/
  mem : Memory
  /-- R250: the transactions serviced so far, newest first (the model's own field, assumption log 9) -/
  trace : List Bus
  /-- R9, R326: `PARAM_DECIMAL`, which no instruction changes (the model's own field, assumption log 5) -/
  decimal : DecimalMode
  /-- R326: how many decimal results have been drawn under `openDraw` (the model's own field, assumption log 6) -/
  draws : Nat
  deriving DecidableEq, Repr

/-- Why the machine stops. -/
inductive Fault where
  /-- Raised by `step`, and by every meaning, from a state whose sticky `fault` flag is set: an unknown opcode was decoded
  and the core makes no further progress (R242, R502). Safe: the spec itself treats the state as terminal. -/
  | unknownOpcode (op : Byte)
  /-- Raised by `step` when the cursor lies beyond the sequence or `yield` is set between calls, and by a meaning asked to
  start an instruction when the machine is not between instructions (R249, R503). Safe: no run from reset or from a
  launch state reaches such a state. -/
  | sequencerDefect
  deriving DecidableEq, Repr

/-- Why an instruction has no meaning. -/
inductive Refusal where
  /-- Raised by `exec` for an instruction whose meaning is not written yet. Safe. No instruction is so refused now. -/
  | notModelled (mnemonic : String)
  deriving DecidableEq, Repr

/-- R48, R600, R601: the machine right after reset. Every register and scratch field is zero, no instruction is in
progress, and the pending transaction is a read of 0x0000. Nothing is listed in memory. -/
def State.reset : State where
  pc := 0x0000#16
  sp := 0x00#8
  a := 0x00#8
  x := 0x00#8
  y := 0x00#8
  p := 0x00#8
  v := 0x00#8
  v2 := 0x00#8
  w := 0x0000#16
  wc := false
  bt := none
  opcode := 0x00#8
  seq := []
  cursor := 0
  yield := false
  fault := false
  faultOpcode := 0x00#8
  bus := { address := 0x0000#16, data := 0x00#8, isWrite := false }
  mem := []
  trace := []
  decimal := Config.decimalDefault
  draws := 0

end Sys2Proof.Machine
end

