-- ==== Sys2Proof/Machine/Flags.lean ====
section
/-! DEFINITION. The status register and every flag and result computation: the bits of P (10_state.md R38), the NZ
update (R41, R168), the ALU primitives' arithmetic (40_microops.md R180 to R192), and binary and decimal add and
subtract (44_arith_logic_compare.md R320 to R324). Pure functions of bytes. -/

namespace Sys2Proof.Machine

/-- R38: where each flag stands in P. -/
def flagBit : Flag → Nat
  | .n => 7
  | .v => 6
  | .d => 3
  | .i => 2
  | .z => 1
  | .c => 0

/-- R38: the value of a flag in a status byte. -/
def getFlag (p : Byte) (f : Flag) : Bool := p.getLsbD (flagBit f)

/-- R170: a status byte with one flag written and every other bit, 5 and 4 among them, kept (R39). -/
def setFlag (p : Byte) (f : Flag) (b : Bool) : Byte :=
  if b then p ||| (1#8 <<< flagBit f) else p &&& ~~~(1#8 <<< flagBit f)

/-- R39: the stored bits 5 and 4 of a status byte, which no flag write touches. -/
def reservedBits (p : Byte) : Byte := p &&& 0x30#8

/-- R41, R168: zero and negative from an 8-bit result. -/
def setNZ (p r : Byte) : Byte := setFlag (setFlag p .z (r == 0#8)) .n (r.getLsbD 7)

/-- R40, R166: the status byte as a push reads it, bits 5 and 4 set. -/
def pushedStatus (p : Byte) : Byte := p ||| 0x30#8

/-- R39, R167: the status byte as a whole-byte write stores it, bit 5 set and bit 4 cleared. -/
def pulledStatus (b : Byte) : Byte := (b ||| 0x20#8) &&& 0xEF#8

/-- The result byte and the four flags of an add or a subtract (R320). -/
structure Arith where
  value : Byte
  n : Bool
  v : Bool
  z : Bool
  c : Bool
  deriving DecidableEq, Repr

/-- R321, R325: P with N, V, Z and C of an add or a subtract written. -/
def setArith (p : Byte) (r : Arith) : Byte :=
  setFlag (setFlag (setFlag (setFlag p .n r.n) .v r.v) .z r.z) .c r.c

/-- R320: binary add with carry. -/
def adcBinary (a m : Byte) (c : Bool) : Arith :=
  let t := a.toNat + m.toNat + c.toNat
  let r := BitVec.ofNat 8 t
  { value := r
    n := r.getLsbD 7
    v := ((~~~(a ^^^ m)) &&& (a ^^^ r) &&& 0x80#8) != 0#8
    z := r == 0#8
    c := decide (0xFF < t) }

/-- R323: binary subtract with borrow, `a + not8(m) + c`. -/
def sbcBinary (a m : Byte) (c : Bool) : Arith :=
  let t := a.toNat + (~~~m).toNat + c.toNat
  let r := BitVec.ofNat 8 t
  { value := r
    n := r.getLsbD 7
    v := ((a ^^^ m) &&& (a ^^^ r) &&& 0x80#8) != 0#8
    z := r == 0#8
    c := decide (0xFF < t) }

/-- R322: the low-digit sum `al` of the decimal add, corrected. -/
def adcDecimalLow (a m : Byte) (c : Bool) : Nat :=
  let al := a.toNat % 16 + m.toNat % 16 + c.toNat
  if 0x0A ≤ al then (al + 0x06) % 16 + 0x10 else al

/-- R322: the intermediate sum `t` of the decimal add, before the high digit is corrected. -/
def adcDecimalMid (a m : Byte) (c : Bool) : Nat :=
  a.toNat / 16 * 16 + m.toNat / 16 * 16 + adcDecimalLow a m c

/-- R322: decimal add, `PARAM_DECIMAL = nmos`. N and V follow the intermediate sum, Z the binary sum. -/
def adcDecimal (a m : Byte) (c : Bool) : Arith :=
  let t := adcDecimalMid a m c
  let u := if 0xA0 ≤ t then t + 0x60 else t
  { value := BitVec.ofNat 8 u
    n := t.testBit 7
    v := a.getLsbD 7 == m.getLsbD 7 && t.testBit 7 != a.getLsbD 7
    z := (a.toNat + m.toNat + c.toNat) % 256 == 0
    c := decide (0x100 ≤ u) }

/-- R324: the low-digit difference `al` of the decimal subtract, corrected. -/
def sbcDecimalLow (a m : Byte) (c : Bool) : Int :=
  let al : Int := (a.toNat % 16 : Nat) - (m.toNat % 16 : Nat) + (c.toNat : Nat) - 1
  if al < 0 then (al - 0x06) % 16 - 0x10 else al

/-- R324: the result byte of the decimal subtract, on signed integers. -/
def sbcDecimalResult (a m : Byte) (c : Bool) : Byte :=
  let t : Int := (a.toNat / 16 * 16 : Nat) - (m.toNat / 16 * 16 : Nat) + sbcDecimalLow a m c
  BitVec.ofInt 8 (if t < 0 then t - 0x60 else t)

/-- R324: decimal subtract, `PARAM_DECIMAL = nmos`: the flags are those of the binary subtract. -/
def sbcDecimal (a m : Byte) (c : Bool) : Arith := { sbcBinary a m c with value := sbcDecimalResult a m c }

/-- R326: the n-th free result of a decimal add or subtract under `PARAM_DECIMAL = open`. -/
def openArith (n : Nat) : Arith :=
  { value := Config.openA n, n := Config.openN n, v := Config.openV n, z := Config.openZ n, c := Config.openC n }

/-- R180: arithmetic shift left: the result and P after it. -/
def aslByte (p b : Byte) : Byte × Byte :=
  let r := b <<< 1
  (r, setNZ (setFlag p .c (b.getLsbD 7)) r)

/-- R181: logical shift right. -/
def lsrByte (p b : Byte) : Byte × Byte :=
  let r := b >>> 1
  (r, setNZ (setFlag p .c (b.getLsbD 0)) r)

/-- R182: rotate left through carry. -/
def rolByte (p b : Byte) : Byte × Byte :=
  let r := (b <<< 1) ||| (if getFlag p .c then 0x01#8 else 0x00#8)
  (r, setNZ (setFlag p .c (b.getLsbD 7)) r)

/-- R183: rotate right through carry. -/
def rorByte (p b : Byte) : Byte × Byte :=
  let r := (b >>> 1) ||| (if getFlag p .c then 0x80#8 else 0x00#8)
  (r, setNZ (setFlag p .c (b.getLsbD 0)) r)

/-- R184: increment. -/
def incByte (p b : Byte) : Byte × Byte := (b + 1#8, setNZ p (b + 1#8))

/-- R185: decrement. -/
def decByte (p b : Byte) : Byte × Byte := (b - 1#8, setNZ p (b - 1#8))

/-- R191: P after a compare of a register with an operand. -/
def cmpFlags (p r m : Byte) : Byte := setNZ (setFlag p .c (decide (m.toNat ≤ r.toNat))) (r - m)

/-- R192: P after a bit test of the accumulator with an operand. -/
def bitFlags (p a m : Byte) : Byte :=
  setFlag (setFlag (setFlag p .z ((a &&& m) == 0#8)) .n (m.getLsbD 7)) .v (m.getLsbD 6)

end Sys2Proof.Machine
end

