-- ==== Sys2Proof/Machine/Ops.lean ====
section
/-! DEFINITION. The operations over registers, bus and memory: what every micro-op does (40_microops.md), the caller's
service of a transaction (20_memory.md R73), one scheduler call (42_decode_scheduler.md R240 to R245), a whole
instruction as its calls, and the one trap with its return (60_exceptions.md R506, R507). -/

namespace Sys2Proof.Machine

/-- R12: `BusRead(a)`. The data byte is left as it was (R74). -/
def busRead (a : Addr) (s : State) : State :=
  { s with bus := { s.bus with address := a, isWrite := false }, yield := true }

/-- R12: `BusWrite(a, b)`. -/
def busWrite (a : Addr) (b : Byte) (s : State) : State :=
  { s with bus := { address := a, data := b, isWrite := true }, yield := true }

/-- The value of an index register (R156, R159). -/
def State.index (s : State) : Index → Byte
  | .x => s.x
  | .y => s.y

/-- The value of an 8-bit register (R191). -/
def State.reg (s : State) : Reg → Byte
  | .a => s.a
  | .x => s.x
  | .y => s.y
  | .s => s.sp

/-- R165: write an 8-bit register; no flag is written. -/
def State.setReg (s : State) (r : Reg) (b : Byte) : State :=
  match r with
  | .a => { s with a := b }
  | .x => { s with x := b }
  | .y => { s with y := b }
  | .s => { s with sp := b }

/-- R164: the value of a source. -/
def State.source (s : State) : Source → Byte
  | .a => s.a
  | .x => s.x
  | .y => s.y
  | .s => s.sp
  | .pch => hi8 s.pc
  | .pcl => lo8 s.pc
  | .pPush => pushedStatus s.p

/-- R36, R157: the address of a stack byte, in page 1. -/
def stackAddr (sp : Byte) : Addr := mk16 Config.stackPage sp

/-- R159: whether adding an index to a low byte crosses a page. -/
def pageCross (lo i : Byte) : Bool := decide (256 ≤ lo.toNat + i.toNat)

/-- R189, R190: the accumulator and N, V, Z, C of an add or a subtract. -/
def State.setAcc (s : State) (r : Arith) : State := { s with a := r.value, p := setArith s.p r }

/-- R326: a decimal add or subtract under `PARAM_DECIMAL = open` draws A and N, V, Z, C. -/
def drawDecimal (s : State) : State := { s.setAcc (openArith s.draws) with draws := s.draws + 1 }

/-- R189, R321: `ADC_V`. -/
def adcStep (s : State) : State :=
  if getFlag s.p .d then
    match s.decimal with
    | .nmos => s.setAcc (adcDecimal s.a s.v (getFlag s.p .c))
    | .openDraw => drawDecimal s
  else s.setAcc (adcBinary s.a s.v (getFlag s.p .c))

/-- R190, R325: `SBC_V`. -/
def sbcStep (s : State) : State :=
  if getFlag s.p .d then
    match s.decimal with
    | .nmos => s.setAcc (sbcDecimal s.a s.v (getFlag s.p .c))
    | .openDraw => drawDecimal s
  else s.setAcc (sbcBinary s.a s.v (getFlag s.p .c))

/-- R180 to R185: an ALU primitive that works on `v`. -/
def shiftStep (f : Byte → Byte → Byte × Byte) (s : State) : State :=
  { s with v := (f s.p s.v).1, p := (f s.p s.v).2 }

/-- R186 to R188: a boolean combination into A. -/
def logicStep (r : Byte) (s : State) : State := { s with a := r, p := setNZ s.p r }

/-- R175: `BR_TEST(f, b)`. -/
def brTestStep (f : Flag) (b : Bool) (s : State) : State :=
  if getFlag s.p f = b then busRead s.pc { s with bt := some (s.pc + sext16 s.v) }
  else { s with bt := none }

/-- R176: `BR_FIX`. -/
def brFixStep (s : State) : State :=
  match s.bt with
  | none => s
  | some t =>
    if hi8 t = hi8 s.pc then { s with pc := t, bt := none }
    else
      let u := mk16 (hi8 s.pc) (lo8 t)
      busRead u { s with pc := u }

/-- R177: `BR_COMMIT`. -/
def brCommitStep (s : State) : State :=
  match s.bt with
  | none => s
  | some t => { s with pc := t, bt := none }

/-- R142 to R192: what each primitive does. A primitive writes no field it does not name (R140). -/
def runMicro : MicroOp → State → State
  | .rdPc, s => busRead s.pc s
  | .rdPcInc, s => busRead s.pc { s with pc := s.pc + 1#16 }
  | .rdW, s => busRead s.w s
  | .wrW, s => busWrite s.w s.v s
  | .ldV, s => { s with v := s.bus.data }
  | .ldV2, s => { s with v2 := s.bus.data }
  | .ldWZ, s => { s with w := zext16 s.bus.data }
  | .ldWA, s => { s with w := mk16 s.bus.data s.v2 }
  | .ldPc, s => { s with pc := mk16 s.bus.data s.v2 }
  | .incWPage, s => { s with w := mk16 (hi8 s.w) (lo8 s.w + 1#8) }
  | .addZp r, s => { s with w := mk16 (hi8 s.w) (lo8 s.w + s.index r) }
  | .spToW, s => { s with w := stackAddr s.sp }
  | .setW k, s => { s with w := k }
  | .addIdx r, s =>
    { s with wc := pageCross (lo8 s.w) (s.index r), w := mk16 (hi8 s.w) (lo8 s.w + s.index r) }
  | .fixCross, s => if s.wc then { s with w := s.w + 0x0100#16, wc := false } else s
  | .fixRdIfCross, s =>
    if s.wc then busRead (s.w + 0x0100#16) { s with w := s.w + 0x0100#16, wc := false } else s
  | .incS, s => { s with sp := s.sp + 1#8 }
  | .decS, s => { s with sp := s.sp - 1#8 }
  | .vFrom src, s => { s with v := s.source src }
  | .vTo dst, s => s.setReg dst s.v
  | .pFromV, s => { s with p := pulledStatus s.v }
  | .nzV, s => { s with p := setNZ s.p s.v }
  | .setF f b, s => { s with p := setFlag s.p f b }
  | .brTest f b, s => brTestStep f b s
  | .brFix, s => brFixStep s
  | .brCommit, s => brCommitStep s
  | .done, s => s
  | .aslV, s => shiftStep aslByte s
  | .lsrV, s => shiftStep lsrByte s
  | .rolV, s => shiftStep rolByte s
  | .rorV, s => shiftStep rorByte s
  | .incV, s => shiftStep incByte s
  | .decV, s => shiftStep decByte s
  | .oraV, s => logicStep (s.a ||| s.v) s
  | .andV, s => logicStep (s.a &&& s.v) s
  | .eorV, s => logicStep (s.a ^^^ s.v) s
  | .adcV, s => adcStep s
  | .sbcV, s => sbcStep s
  | .cmpV r, s => { s with p := cmpFlags s.p (s.reg r) s.v }
  | .bitV, s => { s with p := bitFlags s.p s.a s.v }

/-- R243: one micro-op, with the cursor advanced after it. -/
def tick (m : MicroOp) (s : State) : State := { runMicro m s with cursor := (runMicro m s).cursor + 1 }

/-- R245: the yield flag is cleared before the call returns. -/
def clearYield (s : State) : State := { s with yield := false }

/-- R244: the free last cycle queues the next opcode fetch, a read of the current PC. -/
def queueFetch (s : State) : State :=
  { s with bus := { s.bus with address := s.pc, isWrite := false }, yield := false }

/-- R73: the caller services the pending transaction between two calls, and the trace records it (R250). -/
def service (s : State) : State :=
  if s.bus.isWrite then { s with mem := s.mem.put s.bus.address s.bus.data, trace := s.bus :: s.trace }
  else
    { s with bus := { s.bus with data := s.mem.at s.bus.address }
             trace := { s.bus with data := s.mem.at s.bus.address } :: s.trace }

/-- R243 to R245: one call's share of the micro-ops that are left: run them until one yields or none is left, and
then queue the next opcode fetch. -/
def runCall : List MicroOp → State → State
  | [], s => queueFetch s
  | m :: ms, s => if (tick m s).yield then clearYield (tick m s) else runCall ms (tick m s)

/-- The micro-ops of the active sequence from the cursor on (R243). -/
def State.rest (s : State) : List MicroOp := s.seq.drop s.cursor

/-- R243: the part of a `cycle` call after decode. -/
def callCore (s : State) : State := runCall s.rest s

/-- R241: the state changes of decode for an opcode with a table entry. -/
def beginInstr (op : Byte) (seq : List MicroOp) (s : State) : State :=
  { s with opcode := op, seq := seq, cursor := 0, wc := false, pc := s.pc + 1#16 }

/-- R242, R502: an unknown opcode sets the sticky fault and changes nothing else. -/
def raiseUnknownOpcode (op : Byte) (s : State) : State := { s with fault := true, faultOpcode := op }

/-- R243 to R245 with R73: the micro-ops that are left, over as many calls as they take, with the caller's service
between two calls, up to the opcode fetch of the next instruction. -/
def runToEnd : List MicroOp → State → State
  | [], s => queueFetch s
  | m :: ms, s =>
    if (tick m s).yield then runToEnd ms (service (clearYield (tick m s))) else runToEnd ms (tick m s)

/-- A whole instruction (R8: "Its meaning is the sequence of cycles it takes"): from a state between instructions, the
caller services the opcode fetch, decode starts the instruction, and its calls follow. -/
def runInstruction (op : Byte) (seq : List MicroOp) (s : State) : Host.Outcome State Fault Refusal :=
  if s.fault then .fault (.unknownOpcode s.faultOpcode)
  else if s.yield || s.cursor != s.seq.length then .fault .sequencerDefect
  else .next (runToEnd seq (beginInstr op seq (service s)))

/-- R248: the machine is at an instruction boundary. -/
abbrev AtBoundary (s : State) : Prop :=
  s.cursor = s.seq.length ∧ s.fault = false ∧ s.yield = false ∧ s.bt = none ∧
    s.bus.isWrite = false ∧ s.bus.address = s.pc

/-- R603: the launch state of `PARAM_LAUNCH` (D10): registers and memory as given, everything else as after reset, and the
opcode fetch at PC pending. -/
def launch (pc : Addr) (sp a x y p : Byte) (mem : Memory) : State :=
  { State.reset with
    pc := pc, sp := sp, a := a, x := x, y := y, p := p, mem := mem
    bus := { address := pc, data := 0x00#8, isWrite := false } }

/-- R171: `PUSH(src)`. -/
def push (src : Source) : List MicroOp := [.vFrom src, .spToW, .decS, .wrW]

/-- R172: `PULL`. -/
def pull : List MicroOp := [.incS, .spToW, .rdW]

/-- R173: `STK_DUMMY`. -/
def stkDummy : List MicroOp := [.spToW, .rdW]

/-- R414, R506: trap entry, after the padding byte's read: push the return address and the status, set I, and load PC
from the vector. BRK is the core's only trap. -/
def trapEntry : List MicroOp :=
  push .pch ++ push .pcl ++ push .pPush ++
    [.setF .i true, .setW Config.brkVectorLo, .rdW, .ldV2, .setW Config.brkVectorHi, .rdW, .ldPc]

/-- R413, R507: trap return, after the stack's dummy read: pull the status, then the return address. -/
def trapReturn : List MicroOp := pull ++ [.ldV, .pFromV] ++ pull ++ [.ldV2] ++ pull ++ [.ldPc]

end Sys2Proof.Machine
end

