-- ==== Sys2Proof/Machine/Operands.lean ====
section
/-! DEFINITION. The addressing modes. First the composers of 41_addressing_modes.md R200 to R211 and the tails of R213 to
R215, from which the instruction families build their sequences; then the same modes as formulas for the effective
address, the operand, and the bus rows of R217 to R219, over the state at an instruction boundary. -/

namespace Sys2Proof.Machine

/-- R201: the access kinds. -/
inductive Kind where
  /-- R: fast indexing -/
  | read
  /-- W: slow indexing -/
  | write
  /-- M, read-modify-write: slow indexing -/
  | rmw
  deriving DecidableEq, Repr

/-- R205 to R210: the operand read that the composers of kind R and M end with. -/
def operandRead : Kind → List MicroOp
  | .read => [.rdW]
  | .write => []
  | .rmw => [.rdW]

/-- R201, R208, R211: the page-cross correction of fast (R) and slow (W, M) indexing; M appends the operand read. -/
def indexFix : Kind → List MicroOp
  | .read => [.fixRdIfCross]
  | .write => [.fixCross]
  | .rmw => [.fixCross, .rdW]

/-- R202, R203. -/
def composeImp : List MicroOp := [.rdPc]

/-- R204. -/
def composeImm : List MicroOp := [.rdPcInc]

/-- R205. -/
def composeZp (k : Kind) : List MicroOp := [.rdPcInc, .ldWZ] ++ operandRead k

/-- R206. -/
def composeZpIdx (r : Index) (k : Kind) : List MicroOp := [.rdPcInc, .ldWZ, .rdW, .addZp r] ++ operandRead k

/-- R207. -/
def composeAbs (k : Kind) : List MicroOp := [.rdPcInc, .ldV2, .rdPcInc, .ldWA] ++ operandRead k

/-- R208. -/
def composeAbsIdx (r : Index) (k : Kind) : List MicroOp :=
  [.rdPcInc, .ldV2, .rdPcInc, .ldWA, .addIdx r, .rdW] ++ indexFix k

/-- R210. -/
def composeIzx (k : Kind) : List MicroOp :=
  [.rdPcInc, .ldWZ, .rdW, .addZp .x, .rdW, .ldV2, .incWPage, .rdW, .ldWA] ++ operandRead k

/-- R211. -/
def composeIzy (k : Kind) : List MicroOp :=
  [.rdPcInc, .ldWZ, .rdW, .ldV2, .incWPage, .rdW, .ldWA, .addIdx .y, .rdW] ++ indexFix k

/-- R200, R201: the composer of a mode and an access kind. `ind` and `rel` have their own sequences (R212). -/
def composerOf : Mode → Kind → List MicroOp
  | .imm, _ => composeImm
  | .zp, k => composeZp k
  | .zpx, k => composeZpIdx .x k
  | .zpy, k => composeZpIdx .y k
  | .abs, k => composeAbs k
  | .abx, k => composeAbsIdx .x k
  | .aby, k => composeAbsIdx .y k
  | .izx, k => composeIzx k
  | .izy, k => composeIzy k
  | .imp, _ => composeImp
  | .acc, _ => composeImp
  | .ind, _ => []
  | .rel, _ => []

/-- The modes whose operand is an immediate byte or a byte of memory. -/
def isDataMode : Mode → Bool
  | .imm => true
  | .zp => true
  | .zpx => true
  | .zpy => true
  | .abs => true
  | .abx => true
  | .aby => true
  | .izx => true
  | .izy => true
  | _ => false

/-- R201: the access kind of a mnemonic with a data access; `none` for the mnemonics that have none. -/
def accessKind : Mnemonic → Option Kind
  | .lda => some .read
  | .ldx => some .read
  | .ldy => some .read
  | .ora => some .read
  | .and => some .read
  | .eor => some .read
  | .adc => some .read
  | .sbc => some .read
  | .cmp => some .read
  | .cpx => some .read
  | .cpy => some .read
  | .bit => some .read
  | .sta => some .write
  | .stx => some .write
  | .sty => some .write
  | .asl => some .rmw
  | .lsr => some .rmw
  | .rol => some .rmw
  | .ror => some .rmw
  | .inc => some .rmw
  | .dec => some .rmw
  | _ => none

/-- R213: the read tail. -/
def readTail (op : List MicroOp) : List MicroOp := .ldV :: op

/-- R214: the write tail. -/
def writeTail (r : Source) : List MicroOp := [.vFrom r, .wrW, .done]

/-- R215: the read-modify-write tail. -/
def rmwTail (alu : MicroOp) : List MicroOp := [.ldV, .wrW, alu, .wrW, .done]

/-- R300: a load's operation on `v`. -/
def loadOp (r : Reg) : List MicroOp := [.vTo r, .nzV]

/-- R350: the accumulator form of a shift or a rotate. -/
def accSeq (alu : MicroOp) : List MicroOp := composeImp ++ [.vFrom .a, alu, .vTo .a]

/-- R350: the register increments and decrements. -/
def regSeq (src : Source) (alu : MicroOp) (dst : Reg) : List MicroOp := composeImp ++ [.vFrom src, alu, .vTo dst]

/-- R371 to R375: the transfers that write N and Z. -/
def transferSeq (src : Source) (dst : Reg) : List MicroOp := composeImp ++ [.vFrom src, .vTo dst, .nzV]

/-- R377 to R383: the flag instructions. -/
def flagSeq (f : Flag) (b : Bool) : List MicroOp := composeImp ++ [.setF f b]

/-- R390: the branches. -/
def branchSeq (f : Flag) (b : Bool) : List MicroOp := [.rdPcInc, .ldV, .brTest f b, .brFix, .brCommit]

/-! ### The modes as formulas over a boundary state, with `pc` at the opcode byte -/

/-- R101: the first operand byte `b1`. -/
def byte1 (s : State) : Byte := s.mem.at (s.pc + 1#16)

/-- R101: the second operand byte `b2`. -/
def byte2 (s : State) : Byte := s.mem.at (s.pc + 2#16)

/-- R102: the operand field `addr` or `ptr`, `b2:b1`. -/
def word12 (s : State) : Addr := mk16 (byte2 s) (byte1 s)

/-- R77, R210, R211: the 16-bit value at a zero-page pointer, its high byte from the next zero-page address mod 2^8. -/
def zpWord (m : Memory) (z : Byte) : Addr := mk16 (m.at (zext16 (z + 1#8))) (m.at (zext16 z))

/-- The unindexed 16-bit base of an indexed mode (R208, R211); `none` for the modes with no page-cross cycle (R221). -/
def indexBase (m : Mode) (s : State) : Option (Addr × Byte) :=
  match m with
  | .abx => some (word12 s, s.x)
  | .aby => some (word12 s, s.y)
  | .izy => some (zpWord s.mem (byte1 s), s.y)
  | _ => none

/-- R205 to R211: the effective address; `none` for the modes that have no data access in memory. -/
def effectiveAddr (m : Mode) (s : State) : Option Addr :=
  match m with
  | .zp => some (zext16 (byte1 s))
  | .zpx => some (zext16 (byte1 s + s.x))
  | .zpy => some (zext16 (byte1 s + s.y))
  | .abs => some (word12 s)
  | .abx => some (word12 s + zext16 s.x)
  | .aby => some (word12 s + zext16 s.y)
  | .izx => some (zpWord s.mem (byte1 s + s.x))
  | .izy => some (zpWord s.mem (byte1 s) + zext16 s.y)
  | .imp => none
  | .acc => none
  | .imm => none
  | .ind => none
  | .rel => none

/-- R300: the operand byte M: the immediate byte, A in accumulator mode, or the byte at the effective address. -/
def operandByte (m : Mode) (s : State) : Option Byte :=
  match m with
  | .imm => some (byte1 s)
  | .acc => some s.a
  | _ => (effectiveAddr m s).map s.mem.at

/-- R208: the uncorrected address `EA'`: the base's high byte with the sum's low byte. -/
def uncorrected (base : Addr) (i : Byte) : Addr := mk16 (hi8 base) (lo8 base + i)

/-- R209: whether the mode's index addition crosses a page. -/
def crosses (m : Mode) (s : State) : Bool :=
  match indexBase m s with
  | some (base, i) => pageCross (lo8 base) i
  | none => false

/-- A serviced read of a memory (R250). -/
def readEntry (m : Memory) (a : Addr) : Bus := { address := a, data := m.at a, isWrite := false }

/-- A serviced write (R250). -/
def writeEntry (a : Addr) (b : Byte) : Bus := { address := a, data := b, isWrite := true }

/-- R217 to R219: the addresses a data-access mode reads after the opcode byte and before the access at EA, in
order: operand bytes, the unindexed zero-page address, the pointer bytes. -/
def pointerReads (m : Mode) (s : State) : List Addr :=
  match m with
  | .zp => [s.pc + 1#16]
  | .zpx => [s.pc + 1#16, zext16 (byte1 s)]
  | .zpy => [s.pc + 1#16, zext16 (byte1 s)]
  | .abs => [s.pc + 1#16, s.pc + 2#16]
  | .abx => [s.pc + 1#16, s.pc + 2#16]
  | .aby => [s.pc + 1#16, s.pc + 2#16]
  | .izx => [s.pc + 1#16, zext16 (byte1 s), zext16 (byte1 s + s.x), zext16 (byte1 s + s.x + 1#8)]
  | .izy => [s.pc + 1#16, zext16 (byte1 s), zext16 (byte1 s + 1#8)]
  | .imm => [s.pc + 1#16]
  | .imp => []
  | .acc => []
  | .ind => []
  | .rel => []

/-- R217 to R219: the read at the uncorrected address `EA'`, which slow indexing (W, M) always makes and fast indexing
(R) makes when a page is crossed. -/
def dummyReads (m : Mode) (k : Kind) (s : State) : List Addr :=
  match indexBase m s with
  | some (base, i) => if k = .read && !pageCross (lo8 base) i then [] else [uncorrected base i]
  | none => []

/-- R217 to R219: every read of a data-access instruction up to and with the operand read, oldest first; kind W has no
operand read. -/
def modeReads (m : Mode) (k : Kind) (s : State) : List Addr :=
  s.pc :: (pointerReads m s ++ dummyReads m k s ++
    match effectiveAddr m s with
    | some ea => if k = .write then [] else [ea]
    | none => [])

/-- The reads of `modeReads` as serviced transactions. -/
def modeTrace (m : Mode) (k : Kind) (s : State) : List Bus := (modeReads m k s).map (readEntry s.mem)

end Sys2Proof.Machine
end

