-- ==== Sys2Proof/Machine/Arith.lean ====
section
/-! DEFINITION. The meanings of add, subtract, logic, compare and bit test (44_arith_logic_compare.md R321 to R333). Each instruction has its
micro-op sequence, as its rule lists it, and its meaning: the whole instruction run from a state between
instructions. -/

namespace Sys2Proof.Machine

/-- `0x69` `ADC #$nn` (R321): the micro-op sequence. -/
def seqAdcImm : List MicroOp := composeImm ++ readTail [.adcV]

/-- R321: `ADC #$nn`. -/
def execAdcImm (s : State) : Host.Outcome State Fault Refusal :=
  runInstruction (Instr.opcode .adcImm) seqAdcImm s

/-- `0x65` `ADC $nn` (R321): the micro-op sequence. -/
def seqAdcZp : List MicroOp := composeZp .read ++ readTail [.adcV]

/-- R321: `ADC $nn`. -/
def execAdcZp (s : State) : Host.Outcome State Fault Refusal :=
  runInstruction (Instr.opcode .adcZp) seqAdcZp s

/-- `0x75` `ADC $nn,X` (R321): the micro-op sequence. -/
def seqAdcZpx : List MicroOp := composeZpIdx .x .read ++ readTail [.adcV]

/-- R321: `ADC $nn,X`. -/
def execAdcZpx (s : State) : Host.Outcome State Fault Refusal :=
  runInstruction (Instr.opcode .adcZpx) seqAdcZpx s

/-- `0x6D` `ADC $nnnn` (R321): the micro-op sequence. -/
def seqAdcAbs : List MicroOp := composeAbs .read ++ readTail [.adcV]

/-- R321: `ADC $nnnn`. -/
def execAdcAbs (s : State) : Host.Outcome State Fault Refusal :=
  runInstruction (Instr.opcode .adcAbs) seqAdcAbs s

/-- `0x7D` `ADC $nnnn,X` (R321): the micro-op sequence. -/
def seqAdcAbx : List MicroOp := composeAbsIdx .x .read ++ readTail [.adcV]

/-- R321: `ADC $nnnn,X`. -/
def execAdcAbx (s : State) : Host.Outcome State Fault Refusal :=
  runInstruction (Instr.opcode .adcAbx) seqAdcAbx s

/-- `0x79` `ADC $nnnn,Y` (R321): the micro-op sequence. -/
def seqAdcAby : List MicroOp := composeAbsIdx .y .read ++ readTail [.adcV]

/-- R321: `ADC $nnnn,Y`. -/
def execAdcAby (s : State) : Host.Outcome State Fault Refusal :=
  runInstruction (Instr.opcode .adcAby) seqAdcAby s

/-- `0x61` `ADC ($nn,X)` (R321): the micro-op sequence. -/
def seqAdcIzx : List MicroOp := composeIzx .read ++ readTail [.adcV]

/-- R321: `ADC ($nn,X)`. -/
def execAdcIzx (s : State) : Host.Outcome State Fault Refusal :=
  runInstruction (Instr.opcode .adcIzx) seqAdcIzx s

/-- `0x71` `ADC ($nn),Y` (R321): the micro-op sequence. -/
def seqAdcIzy : List MicroOp := composeIzy .read ++ readTail [.adcV]

/-- R321: `ADC ($nn),Y`. -/
def execAdcIzy (s : State) : Host.Outcome State Fault Refusal :=
  runInstruction (Instr.opcode .adcIzy) seqAdcIzy s

/-- `0xE9` `SBC #$nn` (R325): the micro-op sequence. -/
def seqSbcImm : List MicroOp := composeImm ++ readTail [.sbcV]

/-- R325: `SBC #$nn`. -/
def execSbcImm (s : State) : Host.Outcome State Fault Refusal :=
  runInstruction (Instr.opcode .sbcImm) seqSbcImm s

/-- `0xE5` `SBC $nn` (R325): the micro-op sequence. -/
def seqSbcZp : List MicroOp := composeZp .read ++ readTail [.sbcV]

/-- R325: `SBC $nn`. -/
def execSbcZp (s : State) : Host.Outcome State Fault Refusal :=
  runInstruction (Instr.opcode .sbcZp) seqSbcZp s

/-- `0xF5` `SBC $nn,X` (R325): the micro-op sequence. -/
def seqSbcZpx : List MicroOp := composeZpIdx .x .read ++ readTail [.sbcV]

/-- R325: `SBC $nn,X`. -/
def execSbcZpx (s : State) : Host.Outcome State Fault Refusal :=
  runInstruction (Instr.opcode .sbcZpx) seqSbcZpx s

/-- `0xED` `SBC $nnnn` (R325): the micro-op sequence. -/
def seqSbcAbs : List MicroOp := composeAbs .read ++ readTail [.sbcV]

/-- R325: `SBC $nnnn`. -/
def execSbcAbs (s : State) : Host.Outcome State Fault Refusal :=
  runInstruction (Instr.opcode .sbcAbs) seqSbcAbs s

/-- `0xFD` `SBC $nnnn,X` (R325): the micro-op sequence. -/
def seqSbcAbx : List MicroOp := composeAbsIdx .x .read ++ readTail [.sbcV]

/-- R325: `SBC $nnnn,X`. -/
def execSbcAbx (s : State) : Host.Outcome State Fault Refusal :=
  runInstruction (Instr.opcode .sbcAbx) seqSbcAbx s

/-- `0xF9` `SBC $nnnn,Y` (R325): the micro-op sequence. -/
def seqSbcAby : List MicroOp := composeAbsIdx .y .read ++ readTail [.sbcV]

/-- R325: `SBC $nnnn,Y`. -/
def execSbcAby (s : State) : Host.Outcome State Fault Refusal :=
  runInstruction (Instr.opcode .sbcAby) seqSbcAby s

/-- `0xE1` `SBC ($nn,X)` (R325): the micro-op sequence. -/
def seqSbcIzx : List MicroOp := composeIzx .read ++ readTail [.sbcV]

/-- R325: `SBC ($nn,X)`. -/
def execSbcIzx (s : State) : Host.Outcome State Fault Refusal :=
  runInstruction (Instr.opcode .sbcIzx) seqSbcIzx s

/-- `0xF1` `SBC ($nn),Y` (R325): the micro-op sequence. -/
def seqSbcIzy : List MicroOp := composeIzy .read ++ readTail [.sbcV]

/-- R325: `SBC ($nn),Y`. -/
def execSbcIzy (s : State) : Host.Outcome State Fault Refusal :=
  runInstruction (Instr.opcode .sbcIzy) seqSbcIzy s

/-- `0x29` `AND #$nn` (R327): the micro-op sequence. -/
def seqAndImm : List MicroOp := composeImm ++ readTail [.andV]

/-- R327: `AND #$nn`. -/
def execAndImm (s : State) : Host.Outcome State Fault Refusal :=
  runInstruction (Instr.opcode .andImm) seqAndImm s

/-- `0x25` `AND $nn` (R327): the micro-op sequence. -/
def seqAndZp : List MicroOp := composeZp .read ++ readTail [.andV]

/-- R327: `AND $nn`. -/
def execAndZp (s : State) : Host.Outcome State Fault Refusal :=
  runInstruction (Instr.opcode .andZp) seqAndZp s

/-- `0x35` `AND $nn,X` (R327): the micro-op sequence. -/
def seqAndZpx : List MicroOp := composeZpIdx .x .read ++ readTail [.andV]

/-- R327: `AND $nn,X`. -/
def execAndZpx (s : State) : Host.Outcome State Fault Refusal :=
  runInstruction (Instr.opcode .andZpx) seqAndZpx s

/-- `0x2D` `AND $nnnn` (R327): the micro-op sequence. -/
def seqAndAbs : List MicroOp := composeAbs .read ++ readTail [.andV]

/-- R327: `AND $nnnn`. -/
def execAndAbs (s : State) : Host.Outcome State Fault Refusal :=
  runInstruction (Instr.opcode .andAbs) seqAndAbs s

/-- `0x3D` `AND $nnnn,X` (R327): the micro-op sequence. -/
def seqAndAbx : List MicroOp := composeAbsIdx .x .read ++ readTail [.andV]

/-- R327: `AND $nnnn,X`. -/
def execAndAbx (s : State) : Host.Outcome State Fault Refusal :=
  runInstruction (Instr.opcode .andAbx) seqAndAbx s

/-- `0x39` `AND $nnnn,Y` (R327): the micro-op sequence. -/
def seqAndAby : List MicroOp := composeAbsIdx .y .read ++ readTail [.andV]

/-- R327: `AND $nnnn,Y`. -/
def execAndAby (s : State) : Host.Outcome State Fault Refusal :=
  runInstruction (Instr.opcode .andAby) seqAndAby s

/-- `0x21` `AND ($nn,X)` (R327): the micro-op sequence. -/
def seqAndIzx : List MicroOp := composeIzx .read ++ readTail [.andV]

/-- R327: `AND ($nn,X)`. -/
def execAndIzx (s : State) : Host.Outcome State Fault Refusal :=
  runInstruction (Instr.opcode .andIzx) seqAndIzx s

/-- `0x31` `AND ($nn),Y` (R327): the micro-op sequence. -/
def seqAndIzy : List MicroOp := composeIzy .read ++ readTail [.andV]

/-- R327: `AND ($nn),Y`. -/
def execAndIzy (s : State) : Host.Outcome State Fault Refusal :=
  runInstruction (Instr.opcode .andIzy) seqAndIzy s

/-- `0x09` `ORA #$nn` (R328): the micro-op sequence. -/
def seqOraImm : List MicroOp := composeImm ++ readTail [.oraV]

/-- R328: `ORA #$nn`. -/
def execOraImm (s : State) : Host.Outcome State Fault Refusal :=
  runInstruction (Instr.opcode .oraImm) seqOraImm s

/-- `0x05` `ORA $nn` (R328): the micro-op sequence. -/
def seqOraZp : List MicroOp := composeZp .read ++ readTail [.oraV]

/-- R328: `ORA $nn`. -/
def execOraZp (s : State) : Host.Outcome State Fault Refusal :=
  runInstruction (Instr.opcode .oraZp) seqOraZp s

/-- `0x15` `ORA $nn,X` (R328): the micro-op sequence. -/
def seqOraZpx : List MicroOp := composeZpIdx .x .read ++ readTail [.oraV]

/-- R328: `ORA $nn,X`. -/
def execOraZpx (s : State) : Host.Outcome State Fault Refusal :=
  runInstruction (Instr.opcode .oraZpx) seqOraZpx s

/-- `0x0D` `ORA $nnnn` (R328): the micro-op sequence. -/
def seqOraAbs : List MicroOp := composeAbs .read ++ readTail [.oraV]

/-- R328: `ORA $nnnn`. -/
def execOraAbs (s : State) : Host.Outcome State Fault Refusal :=
  runInstruction (Instr.opcode .oraAbs) seqOraAbs s

/-- `0x1D` `ORA $nnnn,X` (R328): the micro-op sequence. -/
def seqOraAbx : List MicroOp := composeAbsIdx .x .read ++ readTail [.oraV]

/-- R328: `ORA $nnnn,X`. -/
def execOraAbx (s : State) : Host.Outcome State Fault Refusal :=
  runInstruction (Instr.opcode .oraAbx) seqOraAbx s

/-- `0x19` `ORA $nnnn,Y` (R328): the micro-op sequence. -/
def seqOraAby : List MicroOp := composeAbsIdx .y .read ++ readTail [.oraV]

/-- R328: `ORA $nnnn,Y`. -/
def execOraAby (s : State) : Host.Outcome State Fault Refusal :=
  runInstruction (Instr.opcode .oraAby) seqOraAby s

/-- `0x01` `ORA ($nn,X)` (R328): the micro-op sequence. -/
def seqOraIzx : List MicroOp := composeIzx .read ++ readTail [.oraV]

/-- R328: `ORA ($nn,X)`. -/
def execOraIzx (s : State) : Host.Outcome State Fault Refusal :=
  runInstruction (Instr.opcode .oraIzx) seqOraIzx s

/-- `0x11` `ORA ($nn),Y` (R328): the micro-op sequence. -/
def seqOraIzy : List MicroOp := composeIzy .read ++ readTail [.oraV]

/-- R328: `ORA ($nn),Y`. -/
def execOraIzy (s : State) : Host.Outcome State Fault Refusal :=
  runInstruction (Instr.opcode .oraIzy) seqOraIzy s

/-- `0x49` `EOR #$nn` (R329): the micro-op sequence. -/
def seqEorImm : List MicroOp := composeImm ++ readTail [.eorV]

/-- R329: `EOR #$nn`. -/
def execEorImm (s : State) : Host.Outcome State Fault Refusal :=
  runInstruction (Instr.opcode .eorImm) seqEorImm s

/-- `0x45` `EOR $nn` (R329): the micro-op sequence. -/
def seqEorZp : List MicroOp := composeZp .read ++ readTail [.eorV]

/-- R329: `EOR $nn`. -/
def execEorZp (s : State) : Host.Outcome State Fault Refusal :=
  runInstruction (Instr.opcode .eorZp) seqEorZp s

/-- `0x55` `EOR $nn,X` (R329): the micro-op sequence. -/
def seqEorZpx : List MicroOp := composeZpIdx .x .read ++ readTail [.eorV]

/-- R329: `EOR $nn,X`. -/
def execEorZpx (s : State) : Host.Outcome State Fault Refusal :=
  runInstruction (Instr.opcode .eorZpx) seqEorZpx s

/-- `0x4D` `EOR $nnnn` (R329): the micro-op sequence. -/
def seqEorAbs : List MicroOp := composeAbs .read ++ readTail [.eorV]

/-- R329: `EOR $nnnn`. -/
def execEorAbs (s : State) : Host.Outcome State Fault Refusal :=
  runInstruction (Instr.opcode .eorAbs) seqEorAbs s

/-- `0x5D` `EOR $nnnn,X` (R329): the micro-op sequence. -/
def seqEorAbx : List MicroOp := composeAbsIdx .x .read ++ readTail [.eorV]

/-- R329: `EOR $nnnn,X`. -/
def execEorAbx (s : State) : Host.Outcome State Fault Refusal :=
  runInstruction (Instr.opcode .eorAbx) seqEorAbx s

/-- `0x59` `EOR $nnnn,Y` (R329): the micro-op sequence. -/
def seqEorAby : List MicroOp := composeAbsIdx .y .read ++ readTail [.eorV]

/-- R329: `EOR $nnnn,Y`. -/
def execEorAby (s : State) : Host.Outcome State Fault Refusal :=
  runInstruction (Instr.opcode .eorAby) seqEorAby s

/-- `0x41` `EOR ($nn,X)` (R329): the micro-op sequence. -/
def seqEorIzx : List MicroOp := composeIzx .read ++ readTail [.eorV]

/-- R329: `EOR ($nn,X)`. -/
def execEorIzx (s : State) : Host.Outcome State Fault Refusal :=
  runInstruction (Instr.opcode .eorIzx) seqEorIzx s

/-- `0x51` `EOR ($nn),Y` (R329): the micro-op sequence. -/
def seqEorIzy : List MicroOp := composeIzy .read ++ readTail [.eorV]

/-- R329: `EOR ($nn),Y`. -/
def execEorIzy (s : State) : Host.Outcome State Fault Refusal :=
  runInstruction (Instr.opcode .eorIzy) seqEorIzy s

/-- `0xC9` `CMP #$nn` (R330): the micro-op sequence. -/
def seqCmpImm : List MicroOp := composeImm ++ readTail [.cmpV .a]

/-- R330: `CMP #$nn`. -/
def execCmpImm (s : State) : Host.Outcome State Fault Refusal :=
  runInstruction (Instr.opcode .cmpImm) seqCmpImm s

/-- `0xC5` `CMP $nn` (R330): the micro-op sequence. -/
def seqCmpZp : List MicroOp := composeZp .read ++ readTail [.cmpV .a]

/-- R330: `CMP $nn`. -/
def execCmpZp (s : State) : Host.Outcome State Fault Refusal :=
  runInstruction (Instr.opcode .cmpZp) seqCmpZp s

/-- `0xD5` `CMP $nn,X` (R330): the micro-op sequence. -/
def seqCmpZpx : List MicroOp := composeZpIdx .x .read ++ readTail [.cmpV .a]

/-- R330: `CMP $nn,X`. -/
def execCmpZpx (s : State) : Host.Outcome State Fault Refusal :=
  runInstruction (Instr.opcode .cmpZpx) seqCmpZpx s

/-- `0xCD` `CMP $nnnn` (R330): the micro-op sequence. -/
def seqCmpAbs : List MicroOp := composeAbs .read ++ readTail [.cmpV .a]

/-- R330: `CMP $nnnn`. -/
def execCmpAbs (s : State) : Host.Outcome State Fault Refusal :=
  runInstruction (Instr.opcode .cmpAbs) seqCmpAbs s

/-- `0xDD` `CMP $nnnn,X` (R330): the micro-op sequence. -/
def seqCmpAbx : List MicroOp := composeAbsIdx .x .read ++ readTail [.cmpV .a]

/-- R330: `CMP $nnnn,X`. -/
def execCmpAbx (s : State) : Host.Outcome State Fault Refusal :=
  runInstruction (Instr.opcode .cmpAbx) seqCmpAbx s

/-- `0xD9` `CMP $nnnn,Y` (R330): the micro-op sequence. -/
def seqCmpAby : List MicroOp := composeAbsIdx .y .read ++ readTail [.cmpV .a]

/-- R330: `CMP $nnnn,Y`. -/
def execCmpAby (s : State) : Host.Outcome State Fault Refusal :=
  runInstruction (Instr.opcode .cmpAby) seqCmpAby s

/-- `0xC1` `CMP ($nn,X)` (R330): the micro-op sequence. -/
def seqCmpIzx : List MicroOp := composeIzx .read ++ readTail [.cmpV .a]

/-- R330: `CMP ($nn,X)`. -/
def execCmpIzx (s : State) : Host.Outcome State Fault Refusal :=
  runInstruction (Instr.opcode .cmpIzx) seqCmpIzx s

/-- `0xD1` `CMP ($nn),Y` (R330): the micro-op sequence. -/
def seqCmpIzy : List MicroOp := composeIzy .read ++ readTail [.cmpV .a]

/-- R330: `CMP ($nn),Y`. -/
def execCmpIzy (s : State) : Host.Outcome State Fault Refusal :=
  runInstruction (Instr.opcode .cmpIzy) seqCmpIzy s

/-- `0xE0` `CPX #$nn` (R331): the micro-op sequence. -/
def seqCpxImm : List MicroOp := composeImm ++ readTail [.cmpV .x]

/-- R331: `CPX #$nn`. -/
def execCpxImm (s : State) : Host.Outcome State Fault Refusal :=
  runInstruction (Instr.opcode .cpxImm) seqCpxImm s

/-- `0xE4` `CPX $nn` (R331): the micro-op sequence. -/
def seqCpxZp : List MicroOp := composeZp .read ++ readTail [.cmpV .x]

/-- R331: `CPX $nn`. -/
def execCpxZp (s : State) : Host.Outcome State Fault Refusal :=
  runInstruction (Instr.opcode .cpxZp) seqCpxZp s

/-- `0xEC` `CPX $nnnn` (R331): the micro-op sequence. -/
def seqCpxAbs : List MicroOp := composeAbs .read ++ readTail [.cmpV .x]

/-- R331: `CPX $nnnn`. -/
def execCpxAbs (s : State) : Host.Outcome State Fault Refusal :=
  runInstruction (Instr.opcode .cpxAbs) seqCpxAbs s

/-- `0xC0` `CPY #$nn` (R332): the micro-op sequence. -/
def seqCpyImm : List MicroOp := composeImm ++ readTail [.cmpV .y]

/-- R332: `CPY #$nn`. -/
def execCpyImm (s : State) : Host.Outcome State Fault Refusal :=
  runInstruction (Instr.opcode .cpyImm) seqCpyImm s

/-- `0xC4` `CPY $nn` (R332): the micro-op sequence. -/
def seqCpyZp : List MicroOp := composeZp .read ++ readTail [.cmpV .y]

/-- R332: `CPY $nn`. -/
def execCpyZp (s : State) : Host.Outcome State Fault Refusal :=
  runInstruction (Instr.opcode .cpyZp) seqCpyZp s

/-- `0xCC` `CPY $nnnn` (R332): the micro-op sequence. -/
def seqCpyAbs : List MicroOp := composeAbs .read ++ readTail [.cmpV .y]

/-- R332: `CPY $nnnn`. -/
def execCpyAbs (s : State) : Host.Outcome State Fault Refusal :=
  runInstruction (Instr.opcode .cpyAbs) seqCpyAbs s

/-- `0x24` `BIT $nn` (R333): the micro-op sequence. -/
def seqBitZp : List MicroOp := composeZp .read ++ readTail [.bitV]

/-- R333: `BIT $nn`. -/
def execBitZp (s : State) : Host.Outcome State Fault Refusal :=
  runInstruction (Instr.opcode .bitZp) seqBitZp s

/-- `0x2C` `BIT $nnnn` (R333): the micro-op sequence. -/
def seqBitAbs : List MicroOp := composeAbs .read ++ readTail [.bitV]

/-- R333: `BIT $nnnn`. -/
def execBitAbs (s : State) : Host.Outcome State Fault Refusal :=
  runInstruction (Instr.opcode .bitAbs) seqBitAbs s

end Sys2Proof.Machine
end

