-- ==== Sys2Proof/Machine/Branch.lean ====
section
/-! DEFINITION. The meanings of the eight branches (47_branch.md R390 to R399). Each instruction has its
micro-op sequence, as its rule lists it, and its meaning: the whole instruction run from a state between
instructions. -/

namespace Sys2Proof.Machine

/-- `0x10` `BPL label` (R392): the micro-op sequence. -/
def seqBpl : List MicroOp := branchSeq .n false

/-- R392: `BPL label`. -/
def execBpl (s : State) : Host.Outcome State Fault Refusal :=
  runInstruction (Instr.opcode .bpl) seqBpl s

/-- `0x30` `BMI label` (R393): the micro-op sequence. -/
def seqBmi : List MicroOp := branchSeq .n true

/-- R393: `BMI label`. -/
def execBmi (s : State) : Host.Outcome State Fault Refusal :=
  runInstruction (Instr.opcode .bmi) seqBmi s

/-- `0x50` `BVC label` (R394): the micro-op sequence. -/
def seqBvc : List MicroOp := branchSeq .v false

/-- R394: `BVC label`. -/
def execBvc (s : State) : Host.Outcome State Fault Refusal :=
  runInstruction (Instr.opcode .bvc) seqBvc s

/-- `0x70` `BVS label` (R395): the micro-op sequence. -/
def seqBvs : List MicroOp := branchSeq .v true

/-- R395: `BVS label`. -/
def execBvs (s : State) : Host.Outcome State Fault Refusal :=
  runInstruction (Instr.opcode .bvs) seqBvs s

/-- `0x90` `BCC label` (R396): the micro-op sequence. -/
def seqBcc : List MicroOp := branchSeq .c false

/-- R396: `BCC label`. -/
def execBcc (s : State) : Host.Outcome State Fault Refusal :=
  runInstruction (Instr.opcode .bcc) seqBcc s

/-- `0xB0` `BCS label` (R397): the micro-op sequence. -/
def seqBcs : List MicroOp := branchSeq .c true

/-- R397: `BCS label`. -/
def execBcs (s : State) : Host.Outcome State Fault Refusal :=
  runInstruction (Instr.opcode .bcs) seqBcs s

/-- `0xD0` `BNE label` (R398): the micro-op sequence. -/
def seqBne : List MicroOp := branchSeq .z false

/-- R398: `BNE label`. -/
def execBne (s : State) : Host.Outcome State Fault Refusal :=
  runInstruction (Instr.opcode .bne) seqBne s

/-- `0xF0` `BEQ label` (R399): the micro-op sequence. -/
def seqBeq : List MicroOp := branchSeq .z true

/-- R399: `BEQ label`. -/
def execBeq (s : State) : Host.Outcome State Fault Refusal :=
  runInstruction (Instr.opcode .beq) seqBeq s

end Sys2Proof.Machine
end

