-- ==== Sys2Proof/Machine/Flow.lean ====
section
/-! DEFINITION. The meanings of jumps, subroutine call and return, BRK and RTI (49_flow_control.md R410 to R414). Each instruction has its
micro-op sequence, as its rule lists it, and its meaning: the whole instruction run from a state between
instructions. -/

namespace Sys2Proof.Machine

/-- `0x4C` `JMP $nnnn` (R410): the micro-op sequence. -/
def seqJmpAbs : List MicroOp := [.rdPcInc, .ldV2, .rdPc, .ldPc]

/-- R410: `JMP $nnnn`. -/
def execJmpAbs (s : State) : Host.Outcome State Fault Refusal :=
  runInstruction (Instr.opcode .jmpAbs) seqJmpAbs s

/-- `0x6C` `JMP ($nnnn)` (R410): the micro-op sequence. -/
def seqJmpInd : List MicroOp := [.rdPcInc, .ldV2, .rdPcInc, .ldWA, .rdW, .ldV2, .incWPage, .rdW, .ldPc]

/-- R410: `JMP ($nnnn)`. -/
def execJmpInd (s : State) : Host.Outcome State Fault Refusal :=
  runInstruction (Instr.opcode .jmpInd) seqJmpInd s

/-- `0x20` `JSR $nnnn` (R411): the micro-op sequence. -/
def seqJsrAbs : List MicroOp := [.rdPcInc, .ldV2] ++ stkDummy ++ push .pch ++ push .pcl ++ [.rdPc, .ldPc]

/-- R411: `JSR $nnnn`. -/
def execJsrAbs (s : State) : Host.Outcome State Fault Refusal :=
  runInstruction (Instr.opcode .jsrAbs) seqJsrAbs s

/-- `0x60` `RTS` (R412): the micro-op sequence. -/
def seqRts : List MicroOp := [.rdPc] ++ stkDummy ++ pull ++ [.ldV2] ++ pull ++ [.ldPc, .rdPcInc, .done]

/-- R412: `RTS`. -/
def execRts (s : State) : Host.Outcome State Fault Refusal :=
  runInstruction (Instr.opcode .rts) seqRts s

/-- `0x40` `RTI` (R413): the micro-op sequence. -/
def seqRti : List MicroOp := [.rdPc] ++ stkDummy ++ trapReturn

/-- R413: `RTI`. -/
def execRti (s : State) : Host.Outcome State Fault Refusal :=
  runInstruction (Instr.opcode .rti) seqRti s

/-- `0x00` `BRK` (R414): the micro-op sequence. -/
def seqBrk : List MicroOp := [.rdPcInc] ++ trapEntry

/-- R414: `BRK`. -/
def execBrk (s : State) : Host.Outcome State Fault Refusal :=
  runInstruction (Instr.opcode .brk) seqBrk s

end Sys2Proof.Machine
end

