-- ==== Sys2Proof/Machine/LoadStore.lean ====
section
/-! DEFINITION. The meanings of the load and store instructions (43_load_store.md R301 to R306). Each instruction has its
micro-op sequence, as its rule lists it, and its meaning: the whole instruction run from a state between
instructions. -/

namespace Sys2Proof.Machine

/-- `0xA9` `LDA #$nn` (R301): the micro-op sequence. -/
def seqLdaImm : List MicroOp := composeImm ++ readTail (loadOp .a)

/-- R301: `LDA #$nn`. -/
def execLdaImm (s : State) : Host.Outcome State Fault Refusal :=
  runInstruction (Instr.opcode .ldaImm) seqLdaImm s

/-- `0xA5` `LDA $nn` (R301): the micro-op sequence. -/
def seqLdaZp : List MicroOp := composeZp .read ++ readTail (loadOp .a)

/-- R301: `LDA $nn`. -/
def execLdaZp (s : State) : Host.Outcome State Fault Refusal :=
  runInstruction (Instr.opcode .ldaZp) seqLdaZp s

/-- `0xB5` `LDA $nn,X` (R301): the micro-op sequence. -/
def seqLdaZpx : List MicroOp := composeZpIdx .x .read ++ readTail (loadOp .a)

/-- R301: `LDA $nn,X`. -/
def execLdaZpx (s : State) : Host.Outcome State Fault Refusal :=
  runInstruction (Instr.opcode .ldaZpx) seqLdaZpx s

/-- `0xAD` `LDA $nnnn` (R301): the micro-op sequence. -/
def seqLdaAbs : List MicroOp := composeAbs .read ++ readTail (loadOp .a)

/-- R301: `LDA $nnnn`. -/
def execLdaAbs (s : State) : Host.Outcome State Fault Refusal :=
  runInstruction (Instr.opcode .ldaAbs) seqLdaAbs s

/-- `0xBD` `LDA $nnnn,X` (R301): the micro-op sequence. -/
def seqLdaAbx : List MicroOp := composeAbsIdx .x .read ++ readTail (loadOp .a)

/-- R301: `LDA $nnnn,X`. -/
def execLdaAbx (s : State) : Host.Outcome State Fault Refusal :=
  runInstruction (Instr.opcode .ldaAbx) seqLdaAbx s

/-- `0xB9` `LDA $nnnn,Y` (R301): the micro-op sequence. -/
def seqLdaAby : List MicroOp := composeAbsIdx .y .read ++ readTail (loadOp .a)

/-- R301: `LDA $nnnn,Y`. -/
def execLdaAby (s : State) : Host.Outcome State Fault Refusal :=
  runInstruction (Instr.opcode .ldaAby) seqLdaAby s

/-- `0xA1` `LDA ($nn,X)` (R301): the micro-op sequence. -/
def seqLdaIzx : List MicroOp := composeIzx .read ++ readTail (loadOp .a)

/-- R301: `LDA ($nn,X)`. -/
def execLdaIzx (s : State) : Host.Outcome State Fault Refusal :=
  runInstruction (Instr.opcode .ldaIzx) seqLdaIzx s

/-- `0xB1` `LDA ($nn),Y` (R301): the micro-op sequence. -/
def seqLdaIzy : List MicroOp := composeIzy .read ++ readTail (loadOp .a)

/-- R301: `LDA ($nn),Y`. -/
def execLdaIzy (s : State) : Host.Outcome State Fault Refusal :=
  runInstruction (Instr.opcode .ldaIzy) seqLdaIzy s

/-- `0xA2` `LDX #$nn` (R302): the micro-op sequence. -/
def seqLdxImm : List MicroOp := composeImm ++ readTail (loadOp .x)

/-- R302: `LDX #$nn`. -/
def execLdxImm (s : State) : Host.Outcome State Fault Refusal :=
  runInstruction (Instr.opcode .ldxImm) seqLdxImm s

/-- `0xA6` `LDX $nn` (R302): the micro-op sequence. -/
def seqLdxZp : List MicroOp := composeZp .read ++ readTail (loadOp .x)

/-- R302: `LDX $nn`. -/
def execLdxZp (s : State) : Host.Outcome State Fault Refusal :=
  runInstruction (Instr.opcode .ldxZp) seqLdxZp s

/-- `0xB6` `LDX $nn,Y` (R302): the micro-op sequence. -/
def seqLdxZpy : List MicroOp := composeZpIdx .y .read ++ readTail (loadOp .x)

/-- R302: `LDX $nn,Y`. -/
def execLdxZpy (s : State) : Host.Outcome State Fault Refusal :=
  runInstruction (Instr.opcode .ldxZpy) seqLdxZpy s

/-- `0xAE` `LDX $nnnn` (R302): the micro-op sequence. -/
def seqLdxAbs : List MicroOp := composeAbs .read ++ readTail (loadOp .x)

/-- R302: `LDX $nnnn`. -/
def execLdxAbs (s : State) : Host.Outcome State Fault Refusal :=
  runInstruction (Instr.opcode .ldxAbs) seqLdxAbs s

/-- `0xBE` `LDX $nnnn,Y` (R302): the micro-op sequence. -/
def seqLdxAby : List MicroOp := composeAbsIdx .y .read ++ readTail (loadOp .x)

/-- R302: `LDX $nnnn,Y`. -/
def execLdxAby (s : State) : Host.Outcome State Fault Refusal :=
  runInstruction (Instr.opcode .ldxAby) seqLdxAby s

/-- `0xA0` `LDY #$nn` (R303): the micro-op sequence. -/
def seqLdyImm : List MicroOp := composeImm ++ readTail (loadOp .y)

/-- R303: `LDY #$nn`. -/
def execLdyImm (s : State) : Host.Outcome State Fault Refusal :=
  runInstruction (Instr.opcode .ldyImm) seqLdyImm s

/-- `0xA4` `LDY $nn` (R303): the micro-op sequence. -/
def seqLdyZp : List MicroOp := composeZp .read ++ readTail (loadOp .y)

/-- R303: `LDY $nn`. -/
def execLdyZp (s : State) : Host.Outcome State Fault Refusal :=
  runInstruction (Instr.opcode .ldyZp) seqLdyZp s

/-- `0xB4` `LDY $nn,X` (R303): the micro-op sequence. -/
def seqLdyZpx : List MicroOp := composeZpIdx .x .read ++ readTail (loadOp .y)

/-- R303: `LDY $nn,X`. -/
def execLdyZpx (s : State) : Host.Outcome State Fault Refusal :=
  runInstruction (Instr.opcode .ldyZpx) seqLdyZpx s

/-- `0xAC` `LDY $nnnn` (R303): the micro-op sequence. -/
def seqLdyAbs : List MicroOp := composeAbs .read ++ readTail (loadOp .y)

/-- R303: `LDY $nnnn`. -/
def execLdyAbs (s : State) : Host.Outcome State Fault Refusal :=
  runInstruction (Instr.opcode .ldyAbs) seqLdyAbs s

/-- `0xBC` `LDY $nnnn,X` (R303): the micro-op sequence. -/
def seqLdyAbx : List MicroOp := composeAbsIdx .x .read ++ readTail (loadOp .y)

/-- R303: `LDY $nnnn,X`. -/
def execLdyAbx (s : State) : Host.Outcome State Fault Refusal :=
  runInstruction (Instr.opcode .ldyAbx) seqLdyAbx s

/-- `0x85` `STA $nn` (R304): the micro-op sequence. -/
def seqStaZp : List MicroOp := composeZp .write ++ writeTail .a

/-- R304: `STA $nn`. -/
def execStaZp (s : State) : Host.Outcome State Fault Refusal :=
  runInstruction (Instr.opcode .staZp) seqStaZp s

/-- `0x95` `STA $nn,X` (R304): the micro-op sequence. -/
def seqStaZpx : List MicroOp := composeZpIdx .x .write ++ writeTail .a

/-- R304: `STA $nn,X`. -/
def execStaZpx (s : State) : Host.Outcome State Fault Refusal :=
  runInstruction (Instr.opcode .staZpx) seqStaZpx s

/-- `0x8D` `STA $nnnn` (R304): the micro-op sequence. -/
def seqStaAbs : List MicroOp := composeAbs .write ++ writeTail .a

/-- R304: `STA $nnnn`. -/
def execStaAbs (s : State) : Host.Outcome State Fault Refusal :=
  runInstruction (Instr.opcode .staAbs) seqStaAbs s

/-- `0x9D` `STA $nnnn,X` (R304): the micro-op sequence. -/
def seqStaAbx : List MicroOp := composeAbsIdx .x .write ++ writeTail .a

/-- R304: `STA $nnnn,X`. -/
def execStaAbx (s : State) : Host.Outcome State Fault Refusal :=
  runInstruction (Instr.opcode .staAbx) seqStaAbx s

/-- `0x99` `STA $nnnn,Y` (R304): the micro-op sequence. -/
def seqStaAby : List MicroOp := composeAbsIdx .y .write ++ writeTail .a

/-- R304: `STA $nnnn,Y`. -/
def execStaAby (s : State) : Host.Outcome State Fault Refusal :=
  runInstruction (Instr.opcode .staAby) seqStaAby s

/-- `0x81` `STA ($nn,X)` (R304): the micro-op sequence. -/
def seqStaIzx : List MicroOp := composeIzx .write ++ writeTail .a

/-- R304: `STA ($nn,X)`. -/
def execStaIzx (s : State) : Host.Outcome State Fault Refusal :=
  runInstruction (Instr.opcode .staIzx) seqStaIzx s

/-- `0x91` `STA ($nn),Y` (R304): the micro-op sequence. -/
def seqStaIzy : List MicroOp := composeIzy .write ++ writeTail .a

/-- R304: `STA ($nn),Y`. -/
def execStaIzy (s : State) : Host.Outcome State Fault Refusal :=
  runInstruction (Instr.opcode .staIzy) seqStaIzy s

/-- `0x86` `STX $nn` (R305): the micro-op sequence. -/
def seqStxZp : List MicroOp := composeZp .write ++ writeTail .x

/-- R305: `STX $nn`. -/
def execStxZp (s : State) : Host.Outcome State Fault Refusal :=
  runInstruction (Instr.opcode .stxZp) seqStxZp s

/-- `0x96` `STX $nn,Y` (R305): the micro-op sequence. -/
def seqStxZpy : List MicroOp := composeZpIdx .y .write ++ writeTail .x

/-- R305: `STX $nn,Y`. -/
def execStxZpy (s : State) : Host.Outcome State Fault Refusal :=
  runInstruction (Instr.opcode .stxZpy) seqStxZpy s

/-- `0x8E` `STX $nnnn` (R305): the micro-op sequence. -/
def seqStxAbs : List MicroOp := composeAbs .write ++ writeTail .x

/-- R305: `STX $nnnn`. -/
def execStxAbs (s : State) : Host.Outcome State Fault Refusal :=
  runInstruction (Instr.opcode .stxAbs) seqStxAbs s

/-- `0x84` `STY $nn` (R306): the micro-op sequence. -/
def seqStyZp : List MicroOp := composeZp .write ++ writeTail .y

/-- R306: `STY $nn`. -/
def execStyZp (s : State) : Host.Outcome State Fault Refusal :=
  runInstruction (Instr.opcode .styZp) seqStyZp s

/-- `0x94` `STY $nn,X` (R306): the micro-op sequence. -/
def seqStyZpx : List MicroOp := composeZpIdx .x .write ++ writeTail .y

/-- R306: `STY $nn,X`. -/
def execStyZpx (s : State) : Host.Outcome State Fault Refusal :=
  runInstruction (Instr.opcode .styZpx) seqStyZpx s

/-- `0x8C` `STY $nnnn` (R306): the micro-op sequence. -/
def seqStyAbs : List MicroOp := composeAbs .write ++ writeTail .y

/-- R306: `STY $nnnn`. -/
def execStyAbs (s : State) : Host.Outcome State Fault Refusal :=
  runInstruction (Instr.opcode .styAbs) seqStyAbs s

end Sys2Proof.Machine
end

