-- ==== Sys2Proof/Machine/Shift.lean ====
section
/-! DEFINITION. The meanings of shifts, rotates, increments and decrements (45_shift_rotate_incdec.md R351 to R360). Each instruction has its
micro-op sequence, as its rule lists it, and its meaning: the whole instruction run from a state between
instructions. -/

namespace Sys2Proof.Machine

/-- `0x0A` `ASL A` (R351): the micro-op sequence. -/
def seqAslAcc : List MicroOp := accSeq .aslV

/-- R351: `ASL A`. -/
def execAslAcc (s : State) : Host.Outcome State Fault Refusal :=
  runInstruction (Instr.opcode .aslAcc) seqAslAcc s

/-- `0x06` `ASL $nn` (R351): the micro-op sequence. -/
def seqAslZp : List MicroOp := composeZp .rmw ++ rmwTail .aslV

/-- R351: `ASL $nn`. -/
def execAslZp (s : State) : Host.Outcome State Fault Refusal :=
  runInstruction (Instr.opcode .aslZp) seqAslZp s

/-- `0x16` `ASL $nn,X` (R351): the micro-op sequence. -/
def seqAslZpx : List MicroOp := composeZpIdx .x .rmw ++ rmwTail .aslV

/-- R351: `ASL $nn,X`. -/
def execAslZpx (s : State) : Host.Outcome State Fault Refusal :=
  runInstruction (Instr.opcode .aslZpx) seqAslZpx s

/-- `0x0E` `ASL $nnnn` (R351): the micro-op sequence. -/
def seqAslAbs : List MicroOp := composeAbs .rmw ++ rmwTail .aslV

/-- R351: `ASL $nnnn`. -/
def execAslAbs (s : State) : Host.Outcome State Fault Refusal :=
  runInstruction (Instr.opcode .aslAbs) seqAslAbs s

/-- `0x1E` `ASL $nnnn,X` (R351): the micro-op sequence. -/
def seqAslAbx : List MicroOp := composeAbsIdx .x .rmw ++ rmwTail .aslV

/-- R351: `ASL $nnnn,X`. -/
def execAslAbx (s : State) : Host.Outcome State Fault Refusal :=
  runInstruction (Instr.opcode .aslAbx) seqAslAbx s

/-- `0x4A` `LSR A` (R352): the micro-op sequence. -/
def seqLsrAcc : List MicroOp := accSeq .lsrV

/-- R352: `LSR A`. -/
def execLsrAcc (s : State) : Host.Outcome State Fault Refusal :=
  runInstruction (Instr.opcode .lsrAcc) seqLsrAcc s

/-- `0x46` `LSR $nn` (R352): the micro-op sequence. -/
def seqLsrZp : List MicroOp := composeZp .rmw ++ rmwTail .lsrV

/-- R352: `LSR $nn`. -/
def execLsrZp (s : State) : Host.Outcome State Fault Refusal :=
  runInstruction (Instr.opcode .lsrZp) seqLsrZp s

/-- `0x56` `LSR $nn,X` (R352): the micro-op sequence. -/
def seqLsrZpx : List MicroOp := composeZpIdx .x .rmw ++ rmwTail .lsrV

/-- R352: `LSR $nn,X`. -/
def execLsrZpx (s : State) : Host.Outcome State Fault Refusal :=
  runInstruction (Instr.opcode .lsrZpx) seqLsrZpx s

/-- `0x4E` `LSR $nnnn` (R352): the micro-op sequence. -/
def seqLsrAbs : List MicroOp := composeAbs .rmw ++ rmwTail .lsrV

/-- R352: `LSR $nnnn`. -/
def execLsrAbs (s : State) : Host.Outcome State Fault Refusal :=
  runInstruction (Instr.opcode .lsrAbs) seqLsrAbs s

/-- `0x5E` `LSR $nnnn,X` (R352): the micro-op sequence. -/
def seqLsrAbx : List MicroOp := composeAbsIdx .x .rmw ++ rmwTail .lsrV

/-- R352: `LSR $nnnn,X`. -/
def execLsrAbx (s : State) : Host.Outcome State Fault Refusal :=
  runInstruction (Instr.opcode .lsrAbx) seqLsrAbx s

/-- `0x2A` `ROL A` (R353): the micro-op sequence. -/
def seqRolAcc : List MicroOp := accSeq .rolV

/-- R353: `ROL A`. -/
def execRolAcc (s : State) : Host.Outcome State Fault Refusal :=
  runInstruction (Instr.opcode .rolAcc) seqRolAcc s

/-- `0x26` `ROL $nn` (R353): the micro-op sequence. -/
def seqRolZp : List MicroOp := composeZp .rmw ++ rmwTail .rolV

/-- R353: `ROL $nn`. -/
def execRolZp (s : State) : Host.Outcome State Fault Refusal :=
  runInstruction (Instr.opcode .rolZp) seqRolZp s

/-- `0x36` `ROL $nn,X` (R353): the micro-op sequence. -/
def seqRolZpx : List MicroOp := composeZpIdx .x .rmw ++ rmwTail .rolV

/-- R353: `ROL $nn,X`. -/
def execRolZpx (s : State) : Host.Outcome State Fault Refusal :=
  runInstruction (Instr.opcode .rolZpx) seqRolZpx s

/-- `0x2E` `ROL $nnnn` (R353): the micro-op sequence. -/
def seqRolAbs : List MicroOp := composeAbs .rmw ++ rmwTail .rolV

/-- R353: `ROL $nnnn`. -/
def execRolAbs (s : State) : Host.Outcome State Fault Refusal :=
  runInstruction (Instr.opcode .rolAbs) seqRolAbs s

/-- `0x3E` `ROL $nnnn,X` (R353): the micro-op sequence. -/
def seqRolAbx : List MicroOp := composeAbsIdx .x .rmw ++ rmwTail .rolV

/-- R353: `ROL $nnnn,X`. -/
def execRolAbx (s : State) : Host.Outcome State Fault Refusal :=
  runInstruction (Instr.opcode .rolAbx) seqRolAbx s

/-- `0x6A` `ROR A` (R354): the micro-op sequence. -/
def seqRorAcc : List MicroOp := accSeq .rorV

/-- R354: `ROR A`. -/
def execRorAcc (s : State) : Host.Outcome State Fault Refusal :=
  runInstruction (Instr.opcode .rorAcc) seqRorAcc s

/-- `0x66` `ROR $nn` (R354): the micro-op sequence. -/
def seqRorZp : List MicroOp := composeZp .rmw ++ rmwTail .rorV

/-- R354: `ROR $nn`. -/
def execRorZp (s : State) : Host.Outcome State Fault Refusal :=
  runInstruction (Instr.opcode .rorZp) seqRorZp s

/-- `0x76` `ROR $nn,X` (R354): the micro-op sequence. -/
def seqRorZpx : List MicroOp := composeZpIdx .x .rmw ++ rmwTail .rorV

/-- R354: `ROR $nn,X`. -/
def execRorZpx (s : State) : Host.Outcome State Fault Refusal :=
  runInstruction (Instr.opcode .rorZpx) seqRorZpx s

/-- `0x6E` `ROR $nnnn` (R354): the micro-op sequence. -/
def seqRorAbs : List MicroOp := composeAbs .rmw ++ rmwTail .rorV

/-- R354: `ROR $nnnn`. -/
def execRorAbs (s : State) : Host.Outcome State Fault Refusal :=
  runInstruction (Instr.opcode .rorAbs) seqRorAbs s

/-- `0x7E` `ROR $nnnn,X` (R354): the micro-op sequence. -/
def seqRorAbx : List MicroOp := composeAbsIdx .x .rmw ++ rmwTail .rorV

/-- R354: `ROR $nnnn,X`. -/
def execRorAbx (s : State) : Host.Outcome State Fault Refusal :=
  runInstruction (Instr.opcode .rorAbx) seqRorAbx s

/-- `0xE6` `INC $nn` (R355): the micro-op sequence. -/
def seqIncZp : List MicroOp := composeZp .rmw ++ rmwTail .incV

/-- R355: `INC $nn`. -/
def execIncZp (s : State) : Host.Outcome State Fault Refusal :=
  runInstruction (Instr.opcode .incZp) seqIncZp s

/-- `0xF6` `INC $nn,X` (R355): the micro-op sequence. -/
def seqIncZpx : List MicroOp := composeZpIdx .x .rmw ++ rmwTail .incV

/-- R355: `INC $nn,X`. -/
def execIncZpx (s : State) : Host.Outcome State Fault Refusal :=
  runInstruction (Instr.opcode .incZpx) seqIncZpx s

/-- `0xEE` `INC $nnnn` (R355): the micro-op sequence. -/
def seqIncAbs : List MicroOp := composeAbs .rmw ++ rmwTail .incV

/-- R355: `INC $nnnn`. -/
def execIncAbs (s : State) : Host.Outcome State Fault Refusal :=
  runInstruction (Instr.opcode .incAbs) seqIncAbs s

/-- `0xFE` `INC $nnnn,X` (R355): the micro-op sequence. -/
def seqIncAbx : List MicroOp := composeAbsIdx .x .rmw ++ rmwTail .incV

/-- R355: `INC $nnnn,X`. -/
def execIncAbx (s : State) : Host.Outcome State Fault Refusal :=
  runInstruction (Instr.opcode .incAbx) seqIncAbx s

/-- `0xC6` `DEC $nn` (R356): the micro-op sequence. -/
def seqDecZp : List MicroOp := composeZp .rmw ++ rmwTail .decV

/-- R356: `DEC $nn`. -/
def execDecZp (s : State) : Host.Outcome State Fault Refusal :=
  runInstruction (Instr.opcode .decZp) seqDecZp s

/-- `0xD6` `DEC $nn,X` (R356): the micro-op sequence. -/
def seqDecZpx : List MicroOp := composeZpIdx .x .rmw ++ rmwTail .decV

/-- R356: `DEC $nn,X`. -/
def execDecZpx (s : State) : Host.Outcome State Fault Refusal :=
  runInstruction (Instr.opcode .decZpx) seqDecZpx s

/-- `0xCE` `DEC $nnnn` (R356): the micro-op sequence. -/
def seqDecAbs : List MicroOp := composeAbs .rmw ++ rmwTail .decV

/-- R356: `DEC $nnnn`. -/
def execDecAbs (s : State) : Host.Outcome State Fault Refusal :=
  runInstruction (Instr.opcode .decAbs) seqDecAbs s

/-- `0xDE` `DEC $nnnn,X` (R356): the micro-op sequence. -/
def seqDecAbx : List MicroOp := composeAbsIdx .x .rmw ++ rmwTail .decV

/-- R356: `DEC $nnnn,X`. -/
def execDecAbx (s : State) : Host.Outcome State Fault Refusal :=
  runInstruction (Instr.opcode .decAbx) seqDecAbx s

/-- `0xE8` `INX` (R357): the micro-op sequence. -/
def seqInx : List MicroOp := regSeq .x .incV .x

/-- R357: `INX`. -/
def execInx (s : State) : Host.Outcome State Fault Refusal :=
  runInstruction (Instr.opcode .inx) seqInx s

/-- `0xC8` `INY` (R358): the micro-op sequence. -/
def seqIny : List MicroOp := regSeq .y .incV .y

/-- R358: `INY`. -/
def execIny (s : State) : Host.Outcome State Fault Refusal :=
  runInstruction (Instr.opcode .iny) seqIny s

/-- `0xCA` `DEX` (R359): the micro-op sequence. -/
def seqDex : List MicroOp := regSeq .x .decV .x

/-- R359: `DEX`. -/
def execDex (s : State) : Host.Outcome State Fault Refusal :=
  runInstruction (Instr.opcode .dex) seqDex s

/-- `0x88` `DEY` (R360): the micro-op sequence. -/
def seqDey : List MicroOp := regSeq .y .decV .y

/-- R360: `DEY`. -/
def execDey (s : State) : Host.Outcome State Fault Refusal :=
  runInstruction (Instr.opcode .dey) seqDey s

end Sys2Proof.Machine
end

