-- ==== Sys2Proof/Machine/Stack.lean ====
section
/-! DEFINITION. The meanings of the stack instructions (48_stack.md R400 to R403). Each instruction has its
micro-op sequence, as its rule lists it, and its meaning: the whole instruction run from a state between
instructions. -/

namespace Sys2Proof.Machine

/-- `0x48` `PHA` (R400): the micro-op sequence. -/
def seqPha : List MicroOp := composeImp ++ push .a ++ [.done]

/-- R400: `PHA`. -/
def execPha (s : State) : Host.Outcome State Fault Refusal :=
  runInstruction (Instr.opcode .pha) seqPha s

/-- `0x08` `PHP` (R401): the micro-op sequence. -/
def seqPhp : List MicroOp := composeImp ++ push .pPush ++ [.done]

/-- R401: `PHP`. -/
def execPhp (s : State) : Host.Outcome State Fault Refusal :=
  runInstruction (Instr.opcode .php) seqPhp s

/-- `0x68` `PLA` (R402): the micro-op sequence. -/
def seqPla : List MicroOp := composeImp ++ stkDummy ++ pull ++ [.ldV, .vTo .a, .nzV]

/-- R402: `PLA`. -/
def execPla (s : State) : Host.Outcome State Fault Refusal :=
  runInstruction (Instr.opcode .pla) seqPla s

/-- `0x28` `PLP` (R403): the micro-op sequence. -/
def seqPlp : List MicroOp := composeImp ++ stkDummy ++ pull ++ [.ldV, .pFromV]

/-- R403: `PLP`. -/
def execPlp (s : State) : Host.Outcome State Fault Refusal :=
  runInstruction (Instr.opcode .plp) seqPlp s

end Sys2Proof.Machine
end

