-- ==== Sys2Proof/Machine/Transfer.lean ====
section
/-! DEFINITION. The meanings of register transfers, flag instructions and NOP (46_transfer_flag_nop.md R371 to R384). Each instruction has its
micro-op sequence, as its rule lists it, and its meaning: the whole instruction run from a state between
instructions. -/

namespace Sys2Proof.Machine

/-- `0xAA` `TAX` (R371): the micro-op sequence. -/
def seqTax : List MicroOp := transferSeq .a .x

/-- R371: `TAX`. -/
def execTax (s : State) : Host.Outcome State Fault Refusal :=
  runInstruction (Instr.opcode .tax) seqTax s

/-- `0xA8` `TAY` (R372): the micro-op sequence. -/
def seqTay : List MicroOp := transferSeq .a .y

/-- R372: `TAY`. -/
def execTay (s : State) : Host.Outcome State Fault Refusal :=
  runInstruction (Instr.opcode .tay) seqTay s

/-- `0x8A` `TXA` (R373): the micro-op sequence. -/
def seqTxa : List MicroOp := transferSeq .x .a

/-- R373: `TXA`. -/
def execTxa (s : State) : Host.Outcome State Fault Refusal :=
  runInstruction (Instr.opcode .txa) seqTxa s

/-- `0x98` `TYA` (R374): the micro-op sequence. -/
def seqTya : List MicroOp := transferSeq .y .a

/-- R374: `TYA`. -/
def execTya (s : State) : Host.Outcome State Fault Refusal :=
  runInstruction (Instr.opcode .tya) seqTya s

/-- `0xBA` `TSX` (R375): the micro-op sequence. -/
def seqTsx : List MicroOp := transferSeq .s .x

/-- R375: `TSX`. -/
def execTsx (s : State) : Host.Outcome State Fault Refusal :=
  runInstruction (Instr.opcode .tsx) seqTsx s

/-- `0x9A` `TXS` (R376): the micro-op sequence. -/
def seqTxs : List MicroOp := composeImp ++ [.vFrom .x, .vTo .s]

/-- R376: `TXS`. -/
def execTxs (s : State) : Host.Outcome State Fault Refusal :=
  runInstruction (Instr.opcode .txs) seqTxs s

/-- `0x18` `CLC` (R377): the micro-op sequence. -/
def seqClc : List MicroOp := flagSeq .c false

/-- R377: `CLC`. -/
def execClc (s : State) : Host.Outcome State Fault Refusal :=
  runInstruction (Instr.opcode .clc) seqClc s

/-- `0x38` `SEC` (R378): the micro-op sequence. -/
def seqSec : List MicroOp := flagSeq .c true

/-- R378: `SEC`. -/
def execSec (s : State) : Host.Outcome State Fault Refusal :=
  runInstruction (Instr.opcode .sec) seqSec s

/-- `0x58` `CLI` (R379): the micro-op sequence. -/
def seqCli : List MicroOp := flagSeq .i false

/-- R379: `CLI`. -/
def execCli (s : State) : Host.Outcome State Fault Refusal :=
  runInstruction (Instr.opcode .cli) seqCli s

/-- `0x78` `SEI` (R380): the micro-op sequence. -/
def seqSei : List MicroOp := flagSeq .i true

/-- R380: `SEI`. -/
def execSei (s : State) : Host.Outcome State Fault Refusal :=
  runInstruction (Instr.opcode .sei) seqSei s

/-- `0xD8` `CLD` (R381): the micro-op sequence. -/
def seqCld : List MicroOp := flagSeq .d false

/-- R381: `CLD`. -/
def execCld (s : State) : Host.Outcome State Fault Refusal :=
  runInstruction (Instr.opcode .cld) seqCld s

/-- `0xF8` `SED` (R382): the micro-op sequence. -/
def seqSed : List MicroOp := flagSeq .d true

/-- R382: `SED`. -/
def execSed (s : State) : Host.Outcome State Fault Refusal :=
  runInstruction (Instr.opcode .sed) seqSed s

/-- `0xB8` `CLV` (R383): the micro-op sequence. -/
def seqClv : List MicroOp := flagSeq .v false

/-- R383: `CLV`. -/
def execClv (s : State) : Host.Outcome State Fault Refusal :=
  runInstruction (Instr.opcode .clv) seqClv s

/-- `0xEA` `NOP` (R384): the micro-op sequence. -/
def seqNop : List MicroOp := composeImp ++ [.done]

/-- R384: `NOP`. -/
def execNop (s : State) : Host.Outcome State Fault Refusal :=
  runInstruction (Instr.opcode .nop) seqNop s

end Sys2Proof.Machine
end

