-- ==== Sys2Proof/Machine/Table.lean ====
section
/-! DEFINITION. The instruction table (30_encoding.md R105, R109): every opcode's micro-op sequence, and the look-up by
opcode byte. It is read-only. -/

namespace Sys2Proof.Machine

/-- R109: the `seq` of a table entry. -/
def seqOf : Instr → List MicroOp
  | .ldaImm => seqLdaImm
  | .ldaZp => seqLdaZp
  | .ldaZpx => seqLdaZpx
  | .ldaAbs => seqLdaAbs
  | .ldaAbx => seqLdaAbx
  | .ldaAby => seqLdaAby
  | .ldaIzx => seqLdaIzx
  | .ldaIzy => seqLdaIzy
  | .ldxImm => seqLdxImm
  | .ldxZp => seqLdxZp
  | .ldxZpy => seqLdxZpy
  | .ldxAbs => seqLdxAbs
  | .ldxAby => seqLdxAby
  | .ldyImm => seqLdyImm
  | .ldyZp => seqLdyZp
  | .ldyZpx => seqLdyZpx
  | .ldyAbs => seqLdyAbs
  | .ldyAbx => seqLdyAbx
  | .staZp => seqStaZp
  | .staZpx => seqStaZpx
  | .staAbs => seqStaAbs
  | .staAbx => seqStaAbx
  | .staAby => seqStaAby
  | .staIzx => seqStaIzx
  | .staIzy => seqStaIzy
  | .stxZp => seqStxZp
  | .stxZpy => seqStxZpy
  | .stxAbs => seqStxAbs
  | .styZp => seqStyZp
  | .styZpx => seqStyZpx
  | .styAbs => seqStyAbs
  | .adcImm => seqAdcImm
  | .adcZp => seqAdcZp
  | .adcZpx => seqAdcZpx
  | .adcAbs => seqAdcAbs
  | .adcAbx => seqAdcAbx
  | .adcAby => seqAdcAby
  | .adcIzx => seqAdcIzx
  | .adcIzy => seqAdcIzy
  | .sbcImm => seqSbcImm
  | .sbcZp => seqSbcZp
  | .sbcZpx => seqSbcZpx
  | .sbcAbs => seqSbcAbs
  | .sbcAbx => seqSbcAbx
  | .sbcAby => seqSbcAby
  | .sbcIzx => seqSbcIzx
  | .sbcIzy => seqSbcIzy
  | .andImm => seqAndImm
  | .andZp => seqAndZp
  | .andZpx => seqAndZpx
  | .andAbs => seqAndAbs
  | .andAbx => seqAndAbx
  | .andAby => seqAndAby
  | .andIzx => seqAndIzx
  | .andIzy => seqAndIzy
  | .oraImm => seqOraImm
  | .oraZp => seqOraZp
  | .oraZpx => seqOraZpx
  | .oraAbs => seqOraAbs
  | .oraAbx => seqOraAbx
  | .oraAby => seqOraAby
  | .oraIzx => seqOraIzx
  | .oraIzy => seqOraIzy
  | .eorImm => seqEorImm
  | .eorZp => seqEorZp
  | .eorZpx => seqEorZpx
  | .eorAbs => seqEorAbs
  | .eorAbx => seqEorAbx
  | .eorAby => seqEorAby
  | .eorIzx => seqEorIzx
  | .eorIzy => seqEorIzy
  | .cmpImm => seqCmpImm
  | .cmpZp => seqCmpZp
  | .cmpZpx => seqCmpZpx
  | .cmpAbs => seqCmpAbs
  | .cmpAbx => seqCmpAbx
  | .cmpAby => seqCmpAby
  | .cmpIzx => seqCmpIzx
  | .cmpIzy => seqCmpIzy
  | .cpxImm => seqCpxImm
  | .cpxZp => seqCpxZp
  | .cpxAbs => seqCpxAbs
  | .cpyImm => seqCpyImm
  | .cpyZp => seqCpyZp
  | .cpyAbs => seqCpyAbs
  | .bitZp => seqBitZp
  | .bitAbs => seqBitAbs
  | .aslAcc => seqAslAcc
  | .aslZp => seqAslZp
  | .aslZpx => seqAslZpx
  | .aslAbs => seqAslAbs
  | .aslAbx => seqAslAbx
  | .lsrAcc => seqLsrAcc
  | .lsrZp => seqLsrZp
  | .lsrZpx => seqLsrZpx
  | .lsrAbs => seqLsrAbs
  | .lsrAbx => seqLsrAbx
  | .rolAcc => seqRolAcc
  | .rolZp => seqRolZp
  | .rolZpx => seqRolZpx
  | .rolAbs => seqRolAbs
  | .rolAbx => seqRolAbx
  | .rorAcc => seqRorAcc
  | .rorZp => seqRorZp
  | .rorZpx => seqRorZpx
  | .rorAbs => seqRorAbs
  | .rorAbx => seqRorAbx
  | .incZp => seqIncZp
  | .incZpx => seqIncZpx
  | .incAbs => seqIncAbs
  | .incAbx => seqIncAbx
  | .decZp => seqDecZp
  | .decZpx => seqDecZpx
  | .decAbs => seqDecAbs
  | .decAbx => seqDecAbx
  | .inx => seqInx
  | .iny => seqIny
  | .dex => seqDex
  | .dey => seqDey
  | .tax => seqTax
  | .tay => seqTay
  | .txa => seqTxa
  | .tya => seqTya
  | .tsx => seqTsx
  | .txs => seqTxs
  | .clc => seqClc
  | .sec => seqSec
  | .cli => seqCli
  | .sei => seqSei
  | .cld => seqCld
  | .sed => seqSed
  | .clv => seqClv
  | .nop => seqNop
  | .bpl => seqBpl
  | .bmi => seqBmi
  | .bvc => seqBvc
  | .bvs => seqBvs
  | .bcc => seqBcc
  | .bcs => seqBcs
  | .bne => seqBne
  | .beq => seqBeq
  | .pha => seqPha
  | .php => seqPhp
  | .pla => seqPla
  | .plp => seqPlp
  | .jmpAbs => seqJmpAbs
  | .jmpInd => seqJmpInd
  | .jsrAbs => seqJsrAbs
  | .rts => seqRts
  | .rti => seqRti
  | .brk => seqBrk

/-- R109: a table entry. Only `seq` is read by the sequencer. -/
structure Entry where
  mnemonic : Mnemonic
  mode : Mode
  seq : List MicroOp
  deriving DecidableEq, Repr

/-- R109: the table as a total function of the opcode byte, `none` for the opcodes of R106. -/
def table (op : Byte) : Option Entry := (decodeOpcode op).map fun i => ⟨i.mnemonic, i.mode, seqOf i⟩

end Sys2Proof.Machine
end

