-- ==== Sys2Proof/Machine/Scheduler.lean ====
section
/-! DEFINITION. The `cycle` step of 42_decode_scheduler.md R240 with the caller's service before it (R73), and the placing
of an instruction where the next step fetches it. -/

namespace Sys2Proof.Machine

/-- R241, R242: decode of the opcode byte the caller read, and the new instruction's first call. -/
def decodeCall (s : State) : State :=
  match table s.bus.data with
  | none => raiseUnknownOpcode s.bus.data s
  | some e => callCore (beginInstr s.bus.data e.seq s)

/-- R240: one `cycle` call, on a bus record that has been serviced: decode when no instruction is in progress, then the
call's micro-ops. It reads no memory: the bus record is its only channel (R71). -/
def cycle (s : State) : State := if s.cursor = s.seq.length then decodeCall s else callCore s

/-- One clock cycle: the caller services the pending transaction, then calls `cycle` (R73, R240). A state with the sticky
fault stops (R242, R502), and so does one whose sequencing fields are inconsistent (R249). -/
def clockCycle (s : State) : Host.Outcome State Fault Refusal :=
  if s.fault then .fault (.unknownOpcode s.faultOpcode)
  else if s.yield || decide (s.seq.length < s.cursor) then .fault .sequencerDefect
  else .next (cycle (service s))

/-- `s` between instructions with its opcode fetch pending at PC (R248). -/
def fetchReady (s : State) : State :=
  { s with
    cursor := s.seq.length, yield := false, fault := false, bt := none
    bus := { s.bus with address := s.pc, isWrite := false } }

/-- The bytes of a table word stored from an address on, low byte first: three bytes, the longest instruction. -/
def storeWord (m : Memory) (a : Addr) (n : Nat) : Memory :=
  ((m.put a (BitVec.ofNat 8 n)).put (a + 1#16) (BitVec.ofNat 8 (n / 256))).put (a + 2#16)
    (BitVec.ofNat 8 (n / 65536))

end Sys2Proof.Machine
end

