-- ==== Sys2Proof/Machine/Step.lean ====
section
/-! DEFINITION. The step of the machine: one clock cycle (00_scope.md R8, 42_decode_scheduler.md R240). -/

namespace Sys2Proof.Machine

/-- R8, R240: one step is one clock cycle and one bus transaction. -/
def step (s : State) : Host.Outcome State Fault Refusal := clockCycle s

/-- The instruction of a table word placed where the next step fetches: its bytes in memory from PC on, and the machine
between instructions with the opcode fetch at PC pending (assumption log 11). -/
def State.withFetchWord (s : State) (nbits w : Nat) : State :=
  { fetchReady s with mem := storeWord s.mem s.pc (w % 2 ^ nbits) }

end Sys2Proof.Machine
end

