-- ==== Sys2Proof/Safety.lean ====
section
/-! DEFINITION. The terms that claims are stated in: runs of steps, what two states have in common, and the invariant of
every run (10_state.md R45, R46; 42_decode_scheduler.md R246, R248). -/

namespace Sys2Proof.Machine

/-- `n` clock cycles, stopping at the first fault or refusal. -/
def runSteps : Nat → State → Host.Outcome State Fault Refusal
  | 0, s => .next s
  | n + 1, s =>
    match step s with
    | .next t => runSteps n t
    | .fault f => .fault f
    | .refused r => .refused r

/-- Between two instructions, or in the middle of one (R46). -/
abbrev BetweenInstructions (s : State) : Prop := s.cursor = s.seq.length

/-- Every register of A, X, Y, S but the listed ones is the same. -/
abbrev RegsBut (rs : List Reg) (s t : State) : Prop := ∀ r, r ∉ rs → t.reg r = s.reg r

/-- Every flag but the listed ones is the same, and so are bits 5 and 4 of P. -/
abbrev FlagsBut (fs : List Flag) (s t : State) : Prop :=
  (∀ f, f ∉ fs → getFlag t.p f = getFlag s.p f) ∧ reservedBits t.p = reservedBits s.p

/-- Every byte of memory but those at the listed addresses reads the same. -/
abbrev MemBut (as : List Addr) (s t : State) : Prop := ∀ b, b ∉ as → t.mem.at b = s.mem.at b

/-- The fault record and the decimal parameter are the same. -/
abbrev ModeKept (s t : State) : Prop :=
  t.fault = s.fault ∧ t.faultOpcode = s.faultOpcode ∧ t.decimal = s.decimal

/-- N and Z are those of an 8-bit result (R41). -/
abbrev NZOf (t : State) (b : Byte) : Prop := getFlag t.p .n = b.getLsbD 7 ∧ getFlag t.p .z = (b == 0#8)

/-- N, V, Z, C are those of an add or a subtract (R321, R325). -/
abbrev ArithFlagsOf (t : State) (r : Arith) : Prop :=
  getFlag t.p .n = r.n ∧ getFlag t.p .v = r.v ∧ getFlag t.p .z = r.z ∧ getFlag t.p .c = r.c

/-- From `s`, the transactions `es`, oldest first, have been serviced (R250). -/
abbrev TraceIs (s t : State) (es : List Bus) : Prop := t.trace = es.reverse ++ s.trace

/-- The frame of an instruction: every register, flag and byte of memory but the listed ones is the same, and so are the
fault record, the decimal parameter and the draw counter. -/
abbrev Kept (rs : List Reg) (fs : List Flag) (as : List Addr) (s t : State) : Prop :=
  RegsBut rs s t ∧ FlagsBut fs s t ∧ MemBut as s t ∧ ModeKept s t ∧ t.draws = s.draws

/-- R100: PC is the address after the instruction's bytes. -/
abbrev PcAdvanced (i : Instr) (s t : State) : Prop := t.pc = s.pc + BitVec.ofNat 16 i.length

/-- The number of clock cycles from one state of a run to a later one: one transaction a cycle (R75, R247). -/
def cyclesBetween (s t : State) : Nat := t.trace.length - s.trace.length

/-- R392 to R399: the flag a branch tests and the value on which it is taken. -/
def branchCondition : Mnemonic → Option (Flag × Bool)
  | .bpl => some (.n, false)
  | .bmi => some (.n, true)
  | .bvc => some (.v, false)
  | .bvs => some (.v, true)
  | .bcc => some (.c, false)
  | .bcs => some (.c, true)
  | .bne => some (.z, false)
  | .beq => some (.z, true)
  | _ => none

/-- R391: the extra cycles of a branch at a boundary state: none when not taken, one when taken, two when the target is
in another page than the next instruction. -/
def branchExtra (m : Mnemonic) (s : State) : Nat :=
  match branchCondition m with
  | none => 0
  | some (f, b) =>
    if getFlag s.p f = b then
      if hi8 (branchTarget s.pc (byte1 s)) = hi8 (s.pc + 2#16) then 1 else 2
    else 0

/-- R615: the fixed part of the cycle count, by access kind and mode, and by mnemonic where there is no data access. -/
def baseCycles (m : Mnemonic) (mode : Mode) : Nat :=
  match accessKind m, mode with
  | _, .imm => 2
  | _, .acc => 2
  | some .rmw, .zp => 5
  | some .rmw, .zpx => 6
  | some .rmw, .abs => 6
  | some .rmw, .abx => 7
  | some _, .zp => 3
  | some _, .zpx => 4
  | some _, .zpy => 4
  | some _, .abs => 4
  | some .read, .abx => 4
  | some .read, .aby => 4
  | some .read, .izy => 5
  | some .write, .abx => 5
  | some .write, .aby => 5
  | some _, .izx => 6
  | some .write, .izy => 6
  | _, _ =>
    match m with
    | .pha => 3
    | .php => 3
    | .pla => 4
    | .plp => 4
    | .jmp => if mode = .ind then 5 else 3
    | .jsr => 6
    | .rts => 6
    | .rti => 6
    | .brk => 7
    | _ => 2

/-- R209: the one more cycle of fast indexing when the index addition crosses a page. -/
def crossExtra (i : Instr) (s : State) : Nat :=
  if accessKind i.mnemonic = some .read ∧ crosses i.mode s = true then 1 else 0

/-- R615: the cycle count of an instruction from a boundary state. -/
def documentedCycles (i : Instr) (s : State) : Nat :=
  baseCycles i.mnemonic i.mode + crossExtra i s + branchExtra i.mnemonic s

/-- R217, R370: the two reads of an implied or accumulator instruction: its opcode and the byte after it. -/
def impliedTrace (s : State) : List Bus := [readEntry s.mem s.pc, readEntry s.mem (s.pc + 1#16)]

/-- R351 to R356: the new value of an operand under a shift, a rotate, an increment or a decrement, from the operand and
the carry flag; the operand itself for every other mnemonic. -/
def rmwResult : Mnemonic → Byte → Bool → Byte
  | .asl, x, _ => x <<< 1
  | .lsr, x, _ => x >>> 1
  | .rol, x, c => x <<< 1 + (if c then 1#8 else 0#8)
  | .ror, x, c => x >>> 1 + (if c then 0x80#8 else 0#8)
  | .inc, x, _ => x + 1#8
  | .dec, x, _ => x - 1#8
  | _, x, _ => x

/-- R351 to R356: the carry flag after it; increments and decrements leave it. -/
def rmwCarry : Mnemonic → Byte → Bool → Bool
  | .asl, x, _ => x.getLsbD 7
  | .lsr, x, _ => x.getLsbD 0
  | .rol, x, _ => x.getLsbD 7
  | .ror, x, _ => x.getLsbD 0
  | _, _, c => c

/-- R42: the mnemonics that write each flag. -/
def flagWriters : Flag → List Mnemonic
  | .n => [.lda, .ldx, .ldy, .tax, .tay, .txa, .tya, .tsx, .pla, .inx, .iny, .dex, .dey, .inc, .dec, .asl, .lsr, .rol,
      .ror, .and, .ora, .eor, .adc, .sbc, .cmp, .cpx, .cpy, .bit, .plp, .rti]
  | .z => [.lda, .ldx, .ldy, .tax, .tay, .txa, .tya, .tsx, .pla, .inx, .iny, .dex, .dey, .inc, .dec, .asl, .lsr, .rol,
      .ror, .and, .ora, .eor, .adc, .sbc, .cmp, .cpx, .cpy, .bit, .plp, .rti]
  | .v => [.adc, .sbc, .bit, .clv, .plp, .rti]
  | .d => [.sed, .cld, .plp, .rti]
  | .i => [.sei, .cli, .brk, .plp, .rti]
  | .c => [.adc, .sbc, .cmp, .cpx, .cpy, .asl, .lsr, .rol, .ror, .sec, .clc, .plp, .rti]

/-- R32 to R34, R36: whether an instruction writes a register. -/
def writesReg (r : Reg) (i : Instr) : Bool :=
  match r with
  | .a => i.mnemonic ∈ [Mnemonic.lda, .pla, .txa, .tya, .adc, .sbc, .and, .ora, .eor] || i.mode = .acc
  | .x => i.mnemonic ∈ [Mnemonic.ldx, .tax, .tsx, .inx, .dex]
  | .y => i.mnemonic ∈ [Mnemonic.ldy, .tay, .iny, .dey]
  | .s => i.mnemonic ∈ [Mnemonic.txs, .pha, .php, .pla, .plp, .jsr, .rts, .rti, .brk]

/-- R32 to R34, R36: whether an instruction reads a register, as an operand, as an index or as the stack pointer. -/
def readsReg (r : Reg) (i : Instr) : Bool :=
  match r with
  | .a => i.mnemonic ∈ [Mnemonic.sta, .pha, .tax, .tay, .adc, .sbc, .and, .ora, .eor, .cmp, .bit] || i.mode = .acc
  | .x =>
    i.mnemonic ∈ [Mnemonic.stx, .txa, .txs, .cpx, .inx, .dex] || i.mode = .zpx || i.mode = .abx || i.mode = .izx
  | .y => i.mnemonic ∈ [Mnemonic.sty, .tya, .cpy, .iny, .dey] || i.mode = .zpy || i.mode = .aby || i.mode = .izy
  | .s => i.mnemonic ∈ [Mnemonic.tsx, .pha, .php, .pla, .plp, .jsr, .rts, .rti, .brk]

/-- R304 to R306, R215, R400, R401, R411, R414: whether an instruction writes memory. -/
def writesMemory (i : Instr) : Bool :=
  i.mnemonic ∈ [Mnemonic.sta, .stx, .sty, .pha, .php, .jsr, .brk] ||
    (accessKind i.mnemonic = some .rmw && i.mode != .acc)

/-- R45: `bt` is pending only while the next micro-op is one that finishes a branch, and `wc` only while the next one
consumes it; R246 (3): a latch is next only when the pending transaction is a read. -/
def nextFits : List MicroOp → State → Prop
  | [], s => s.bt = none ∧ s.wc = false ∧ s.bus.isWrite = false ∧ s.bus.address = s.pc
  | m :: _, s =>
    (isBrEnd m = false → s.bt = none) ∧ (isFix m = false → s.wc = false) ∧ (isLatch m = true → s.bus.isWrite = false)

/-- What holds of every state of a run from reset or from a launch state: memory is canonical; `yield` is clear between
calls (R245); the sequence is that of the decoded opcode, or empty before the first decode (R46), and the cursor is
inside it (R249); the scratch registers fit the next micro-op (R45, R246); and a fault was raised by an unknown
opcode between two instructions (R242). -/
structure Inv (s : State) : Prop where
  memory : s.mem.wf = true
  yielded : s.yield = false
  table : (s.seq = [] ∧ s.cursor = 0) ∨ ∃ i, s.opcode = Instr.opcode i ∧ s.seq = seqOf i
  cursor : s.cursor ≤ s.seq.length
  fits : nextFits s.rest s
  faulted : s.fault = true → BetweenInstructions s ∧ decodeOpcode s.faultOpcode = none

/-- The two digits of a packed BCD byte are decimal digits. -/
def isBcd (b : Byte) : Bool := decide (b.toNat % 16 < 10) && decide (b.toNat / 16 < 10)

/-- The number a packed BCD byte stands for. -/
def bcdValue (b : Byte) : Nat := b.toNat / 16 * 10 + b.toNat % 16

end Sys2Proof.Machine
end

