-- ==== Sys2Proof/Certificates/Slice0/Obligations.lean ====
section
/-! DEFINITION. The statements for the provers, from the numbered rules of spec/: the encoding, reset and launch, what a
step and a whole instruction do, what holds of every run, and for every family of the opcode table the result, the
flags, the frame, the program counter and the bus trace of every form. -/

open Sys2Proof Sys2Proof.Machine

/-- O1 (R100, R101, R102, R103). Fourteen byte strings written out from the formats of R101 and the opcode map of R103,
one for each family and operand format, decode to the instruction and the operand they stand for, and the bytes after
the instruction are left. -/
def Obligations.WordsOfTheMapDecode : Prop :=
  decode [0b10101001#8, 0x34#8] = .ok (⟨.ldaImm, .imm8 0x34#8⟩, []) ∧
    decode [0b10110110#8, 0xFF#8, 0x00#8] = .ok (⟨.ldxZpy, .zp8 0xFF#8⟩, [0x00#8]) ∧
    decode [0b10011101#8, 0xFF#8, 0x02#8] = .ok (⟨.staAbx, .addr 0x02FF#16⟩, []) ∧
    decode [0b01100001#8, 0x10#8] = .ok (⟨.adcIzx, .zp8 0x10#8⟩, []) ∧
    decode [0b11110001#8, 0x40#8] = .ok (⟨.sbcIzy, .zp8 0x40#8⟩, []) ∧
    decode [0b00101100#8, 0x00#8, 0x30#8] = .ok (⟨.bitAbs, .addr 0x3000#16⟩, []) ∧
    decode [0b00001010#8, 0x77#8] = .ok (⟨.aslAcc, .none⟩, [0x77#8]) ∧
    decode [0b11010110#8, 0xFF#8] = .ok (⟨.decZpx, .zp8 0xFF#8⟩, []) ∧
    decode [0b10011010#8] = .ok (⟨.txs, .none⟩, []) ∧
    decode [0b11010000#8, 0xFB#8] = .ok (⟨.bne, .off8 0xFB#8⟩, []) ∧
    decode [0b00101000#8] = .ok (⟨.plp, .none⟩, []) ∧
    decode [0b01101100#8, 0xFF#8, 0x10#8] = .ok (⟨.jmpInd, .ptr 0x10FF#16⟩, []) ∧
    decode [0b00100000#8, 0x34#8, 0x12#8] = .ok (⟨.jsrAbs, .addr 0x1234#16⟩, []) ∧
    decode [0b00000000#8] = .ok (⟨.brk, .none⟩, [])

/-- O2 (R100, R101, R102, R103). For every instruction of the table and every operand that fits its mode, decoding the
encoded bytes followed by any bytes gives the instruction with its operand and leaves exactly those bytes. -/
def Obligations.EncodedInstructionDecodes : Prop :=
  ∀ (x : Insn) (rest : List Byte), x.wf = true → decode (encode x ++ rest) = .ok (x, rest)

/-- O3 (R100, R101, R102, R103). If a byte string decodes to an instruction and a rest, the instruction is well formed,
its encoding followed by the rest is the byte string, and the encoding is as long as the opcode alone says (R100). -/
def Obligations.DecodedBytesAreTheEncoding : Prop :=
  ∀ (bytes : List Byte) (x : Insn) (rest : List Byte), decode bytes = .ok (x, rest) →
    x.wf = true ∧ encode x ++ rest = bytes ∧ (encode x).length = x.instr.length

/-- O4 (R105). The table has no entry for an opcode byte exactly when it is one of the 105 listed; 151 opcode bytes have
an entry, and 56 mnemonics appear. -/
def Obligations.IllegalOpcodesHaveNoEntry : Prop :=
  (∀ op : Byte, table op = none ↔
      op.toNat ∈ [0x02, 0x03, 0x04, 0x07, 0x0B, 0x0C, 0x0F, 0x12, 0x13, 0x14, 0x17, 0x1A, 0x1B, 0x1C, 0x1F] ++
        [0x22, 0x23, 0x27, 0x2B, 0x2F, 0x32, 0x33, 0x34, 0x37, 0x3A, 0x3B, 0x3C, 0x3F, 0x42, 0x43] ++
        [0x44, 0x47, 0x4B, 0x4F, 0x52, 0x53, 0x54, 0x57, 0x5A, 0x5B, 0x5C, 0x5F, 0x62, 0x63, 0x64] ++
        [0x67, 0x6B, 0x6F, 0x72, 0x73, 0x74, 0x77, 0x7A, 0x7B, 0x7C, 0x7F, 0x80, 0x82, 0x83, 0x87] ++
        [0x89, 0x8B, 0x8F, 0x92, 0x93, 0x97, 0x9B, 0x9C, 0x9E, 0x9F, 0xA3, 0xA7, 0xAB, 0xAF, 0xB2] ++
        [0xB3, 0xB7, 0xBB, 0xBF, 0xC2, 0xC3, 0xC7, 0xCB, 0xCF, 0xD2, 0xD3, 0xD4, 0xD7, 0xDA, 0xDB] ++
        [0xDC, 0xDF, 0xE2, 0xE3, 0xE7, 0xEB, 0xEF, 0xF2, 0xF3, 0xF4, 0xF7, 0xFA, 0xFB, 0xFC, 0xFF]) ∧
    ((List.range 256).filter fun n => (table (BitVec.ofNat 8 n)).isSome).length = 151 ∧
    (((List.range 256).filterMap fun n => (table (BitVec.ofNat 8 n)).map Entry.mnemonic).dedup).length = 56

/-- O5 (R110, R246, R158, R170, R175, R191). For every opcode byte with an entry: the sequence starts with RD_PC or
RD_PC_INC, ends with a micro-op that cannot yield, latches only after a read, consumes the page-cross latch of its one
index addition, and closes every branch test. It also uses only the parameters that R158, R170, R175 and R191 give the
primitives; that check is the model's choice (assumption log 16), R246 does not list it. -/
def Obligations.EveryEntryIsWellFormed : Prop :=
  ∀ (op : Byte) (e : Entry), table op = some e → wfSeq e.seq = true

/-- O6 (R48, R600, R601). After reset every register and every scratch register is zero, no branch target is pending, no
instruction is in progress, no fault is recorded, the pending transaction is a read of address 0, and the machine is
at an instruction boundary. That faultOpcode is 0x00 is the model's reading (assumption log 10): R48 does not list it
by itself. -/
def Obligations.ResetIsZeroed : Prop :=
  let s := State.reset
  s.pc = 0x0000#16 ∧ s.sp = 0x00#8 ∧ s.a = 0x00#8 ∧ s.x = 0x00#8 ∧ s.y = 0x00#8 ∧ s.p = 0x00#8 ∧
    s.v = 0x00#8 ∧ s.v2 = 0x00#8 ∧ s.w = 0x0000#16 ∧ s.wc = false ∧ s.bt = none ∧
    s.opcode = 0x00#8 ∧ s.seq = [] ∧ s.cursor = 0 ∧ s.yield = false ∧ s.fault = false ∧ s.faultOpcode = 0x00#8 ∧
    s.bus = { address := 0x0000#16, data := 0x00#8, isWrite := false } ∧ AtBoundary s

/-- O7 (R603). For every PC, S, A, X, Y, P and memory, the launch state holds them, has the scratch and sequencing fields
of reset and the bus record (PC, 0x00, read), and is at an instruction boundary. That it also has reset's decimal
(assumption log 5) and reset's trace, draws and faultOpcode (assumption log 10) is the model's choice; R603 does not
list them. -/
def Obligations.LaunchIsAtABoundary : Prop :=
  ∀ (pc : Addr) (sp a x y p : Byte) (mem : Memory),
    launch pc sp a x y p mem =
        { State.reset with
          pc := pc, sp := sp, a := a, x := x, y := y, p := p, mem := mem
          bus := { address := pc, data := 0x00#8, isWrite := false } } ∧
      AtBoundary (launch pc sp a x y p mem)

/-- O8 (R240, R241, R243, R244, R247, R248, R252). At an instruction boundary where the bytes at PC decode to an
instruction, the next step is that instruction's decode call; exec of it answers the next boundary state t; as many
steps as t has new transactions lead to t; and every state in between is in the middle of the instruction. -/
def Obligations.StepsRunTheDecodedInstruction : Prop :=
  ∀ (s : State) (x : Insn) (rest : List Byte), AtBoundary s →
    decode [s.mem.at s.pc, s.mem.at (s.pc + 1#16), s.mem.at (s.pc + 2#16)] = .ok (x, rest) →
    x.wf = true ∧
      step s = .next (callCore (beginInstr x.instr.opcode (seqOf x.instr) (service s))) ∧
      ∃ t, exec x.instr s = .next t ∧ AtBoundary t ∧ 0 < cyclesBetween s t ∧
        runSteps (cyclesBetween s t) s = .next t ∧
        ∀ k, 0 < k → k < cyclesBetween s t → ∃ u, runSteps k s = .next u ∧ ¬ BetweenInstructions u

/-- O9 (R73, R245). If a step answers a next state, then one transaction is added to the trace: for a pending read the
byte at its address, with memory unchanged; for a pending write the byte written, after which its address reads as
that byte and every other address reads as before. The yield flag is clear. -/
def Obligations.StepServicesThePendingTransaction : Prop :=
  ∀ s t : State, s.mem.wf = true → step s = .next t →
    t.yield = false ∧
      (s.bus.isWrite = false → t.mem = s.mem ∧ TraceIs s t [readEntry s.mem s.bus.address]) ∧
      (s.bus.isWrite = true →
        t.mem.at s.bus.address = s.bus.data ∧ MemBut [s.bus.address] s t ∧
          TraceIs s t [writeEntry s.bus.address s.bus.data])

/-- O10 (R12, R71, R251). One call gives the same state whatever the memory behind the bus holds, and leaves it alone: the
bus record is the only channel. -/
def Obligations.CycleReachesMemoryOnlyThroughTheBus : Prop :=
  ∀ (s : State) (m : Memory), cycle { s with mem := m } = { cycle s with mem := m }

/-- O11 (R74). If a call ends with a read pending, the data byte of the bus record is the one it started with; only a
write request sets it. -/
def Obligations.ReadRequestLeavesTheDataByte : Prop :=
  ∀ s : State, (cycle s).bus.isWrite = false → (cycle s).bus.data = s.bus.data

/-- O12 (R242, R502). At a boundary where the byte at PC has no table entry, the step sets fault and faultOpcode and
changes nothing else but the serviced read; from there every step, and every instruction, answers the unknown-opcode
fault. That last clause is the model's reading (assumption log 7): the spec's later calls return at once and change
nothing, and the state is terminal. -/
def Obligations.UnknownOpcodeIsAStickyFault : Prop :=
  ∀ s : State, AtBoundary s → table (s.mem.at s.pc) = none →
    ∃ t, step s = .next t ∧
      t = { s with
            fault := true, faultOpcode := s.mem.at s.pc
            bus := { s.bus with data := s.mem.at s.pc }
            trace := readEntry s.mem s.pc :: s.trace } ∧
      step t = .fault (.unknownOpcode (s.mem.at s.pc)) ∧
      ∀ i, exec i t = .fault (.unknownOpcode (s.mem.at s.pc))

/-- O13 (R45, R46, R48, R603). The invariant of every run (canonical memory, yield clear, the sequence that of the decoded
opcode, the cursor inside it, the scratch registers fitting the next micro-op, a fault only from an unknown opcode)
holds at reset and in every launch state over a canonical memory. -/
def Obligations.InvariantHoldsAtTheStart : Prop :=
  Inv State.reset ∧
    ∀ (pc : Addr) (sp a x y p : Byte) (mem : Memory), mem.wf = true → Inv (launch pc sp a x y p mem)

/-- O14 (R45, R46, R242, R245, R246, R249). For every state with the invariant, if a step answers a next state, the
invariant holds of that state. -/
def Obligations.StepKeepsTheInvariant : Prop :=
  ∀ s t : State, Inv s → step s = .next t → Inv t

/-- O15 (R242, R249, R502, R503). From every state with the invariant, a step answers a next state unless the sticky fault
is set, and then it answers the unknown-opcode fault with the recorded byte. That a later step answers this fault is
the model's reading (assumption log 7), and so is what counts as a sequencer defect (assumption log 8). -/
def Obligations.OnlyTheUnknownOpcodeStopsTheMachine : Prop :=
  ∀ s : State, Inv s →
    (s.fault = false → ∃ t, step s = .next t) ∧
      (s.fault = true → step s = .fault (.unknownOpcode s.faultOpcode))

/-- O16 (R247, R248, R505). From every instruction boundary every instruction of the table answers a next state, which is
an instruction boundary, after at least two and at most seven transactions. -/
def Obligations.EveryInstructionCompletes : Prop :=
  ∀ (i : Instr) (s : State), AtBoundary s →
    ∃ t, exec i s = .next t ∧ AtBoundary t ∧ 2 ≤ cyclesBetween s t ∧ cyclesBetween s t ≤ 7

/-- O17 (R615). From every instruction boundary every instruction takes exactly the number of cycles of the table of R615:
the fixed part by group and mode, one more when fast indexing crosses a page, one more when a branch is taken and
another when it is taken across a page. -/
def Obligations.CycleCountsAreTheDocumentedOnes : Prop :=
  ∀ (i : Instr) (s : State), AtBoundary s →
    ∃ t, exec i s = .next t ∧ cyclesBetween s t = documentedCycles i s

/-- O18 (R209). For abs,X, abs,Y and (zp),Y: a read instruction takes 4 (abs,X, abs,Y) or 5 ((zp),Y) cycles without a
crossing and one more with one; a store takes 5 or 6 and a read-modify-write instruction 7, with or without a
crossing. The cycle is a read at the uncorrected address (the base's high byte with the sum's low byte): a read
instruction makes it, just before its operand read, on a crossing; a store just before its write and a
read-modify-write instruction just before its operand read make it always. -/
def Obligations.PageCrossingCostsOneReadOnlyInFastIndexing : Prop :=
  ∀ (i : Instr) (s : State) (base : Addr) (r : Byte), AtBoundary s → indexBase i.mode s = some (base, r) →
    ∃ t, exec i s = .next t ∧
      (accessKind i.mnemonic = some .read →
        cyclesBetween s t =
          (if i.mode = .izy then 5 else 4) + (if 0xFF < base.toNat % 256 + r.toNat then 1 else 0) ∧
          (0xFF < base.toNat % 256 + r.toNat → t.trace[1]? = some (readEntry s.mem (uncorrected base r)))) ∧
      (accessKind i.mnemonic = some .write →
        (cyclesBetween s t = if i.mode = .izy then 6 else 5) ∧
          t.trace[1]? = some (readEntry s.mem (uncorrected base r))) ∧
      (accessKind i.mnemonic = some .rmw →
        cyclesBetween s t = 7 ∧ t.trace[3]? = some (readEntry s.mem (uncorrected base r)))

/-- O19 (R32, R33, R34, R36). For A, X, Y and S: an instruction that is not among the register's writers of R32 to R34 and
R36 leaves it unchanged when it answers a next state. -/
def Obligations.RegistersChangeOnlyByTheirWriters : Prop :=
  ∀ (r : Reg) (i : Instr) (s t : State), writesReg r i = false → exec i s = .next t → t.reg r = s.reg r

/-- O20 (R32, R33, R34, R36). For A, X, Y and S: an instruction that is not among the register's readers of R32 to R34 and
R36 runs the same way whatever the register holds: the two results differ at most in that register, and not at all if
the instruction writes it. -/
def Obligations.RegistersInfluenceOnlyTheirReaders : Prop :=
  ∀ (i : Instr) (s t : State) (b : Byte), exec i s = .next t →
    (readsReg .a i = false →
        exec i { s with a := b } = .next { t with a := if writesReg .a i then t.a else b }) ∧
      (readsReg .x i = false →
        exec i { s with x := b } = .next { t with x := if writesReg .x i then t.x else b }) ∧
      (readsReg .y i = false →
        exec i { s with y := b } = .next { t with y := if writesReg .y i then t.y else b }) ∧
      (readsReg .s i = false →
        exec i { s with sp := b } = .next { t with sp := if writesReg .s i then t.sp else b })

/-- O21 (R42). For each of N, V, D, I, Z, C: an instruction whose mnemonic is not among the flag's writers of R42 leaves
it unchanged when it answers a next state. -/
def Obligations.FlagsChangeOnlyByTheirWriters : Prop :=
  ∀ (f : Flag) (i : Instr) (s t : State), i.mnemonic ∉ flagWriters f → exec i s = .next t →
    getFlag t.p f = getFlag s.p f

/-- O22 (R39). Every instruction but PLP and RTI leaves the stored bits 5 and 4 of P as they were; after PLP and RTI bit 5
is 1 and bit 4 is 0. -/
def Obligations.StoredBitsFiveAndFour : Prop :=
  ∀ (i : Instr) (s t : State), exec i s = .next t →
    (i ≠ .plp → i ≠ .rti → t.p &&& 0x30#8 = s.p &&& 0x30#8) ∧ (i = .plp ∨ i = .rti → t.p &&& 0x30#8 = 0x20#8)

/-- O23 (R215, R304, R305, R306, R400, R401, R411, R414). From an instruction boundary every other instruction leaves
every byte of memory unchanged. -/
def Obligations.MemoryChangesOnlyByItsWriters : Prop :=
  ∀ (i : Instr) (s t : State), AtBoundary s → writesMemory i = false → exec i s = .next t → t.mem = s.mem

/-- O24 (R43, R504). Every instruction but PHP and BRK, which push P whole, runs the same way with I flipped: the results
differ in I alone, and not at all under SEI, CLI, PLP and RTI, which write it. -/
def Obligations.InterruptDisableMasksNothing : Prop :=
  ∀ (i : Instr) (s t : State), i ≠ .php → i ≠ .brk → exec i s = .next t →
    exec i { s with p := s.p ^^^ 0x04#8 } =
      .next { t with p := if i ∈ [Instr.sei, .cli, .plp, .rti] then t.p else t.p ^^^ 0x04#8 }

/-- O25 (R301, R302, R303). From a boundary, each of the 18 load opcodes completes with the operand byte in its register,
N and Z from it, every other register, every other flag, every byte of memory and the modes unchanged, PC past the
instruction, and the reads of R217 on the trace. -/
def Obligations.LoadsSetRegisterNAndZ : Prop :=
  ∀ (op : Byte) (i : Instr) (r : Reg), (op, i, r) ∈
      [(0xA9#8, Instr.ldaImm, Reg.a), (0xA5#8, Instr.ldaZp, Reg.a), (0xB5#8, Instr.ldaZpx, Reg.a),
        (0xAD#8, Instr.ldaAbs, Reg.a), (0xBD#8, Instr.ldaAbx, Reg.a), (0xB9#8, Instr.ldaAby, Reg.a),
        (0xA1#8, Instr.ldaIzx, Reg.a), (0xB1#8, Instr.ldaIzy, Reg.a), (0xA2#8, Instr.ldxImm, Reg.x),
        (0xA6#8, Instr.ldxZp, Reg.x), (0xB6#8, Instr.ldxZpy, Reg.x), (0xAE#8, Instr.ldxAbs, Reg.x),
        (0xBE#8, Instr.ldxAby, Reg.x), (0xA0#8, Instr.ldyImm, Reg.y), (0xA4#8, Instr.ldyZp, Reg.y),
        (0xB4#8, Instr.ldyZpx, Reg.y), (0xAC#8, Instr.ldyAbs, Reg.y), (0xBC#8, Instr.ldyAbx, Reg.y)] →
    i.opcode = op ∧ ∀ s : State, AtBoundary s →
      ∃ m t, operandByte i.mode s = some m ∧ exec i s = .next t ∧ AtBoundary t ∧
        t.reg r = m ∧ NZOf t m ∧ Kept [r] [.n, .z] [] s t ∧ PcAdvanced i s t ∧
        TraceIs s t (modeTrace i.mode .read s)

/-- O26 (R304, R305, R306, R218). From a boundary over a canonical memory, each of the 13 store opcodes completes with its
register's byte at the effective address, every other byte of memory, every register and every flag unchanged, PC past
the instruction, and the accesses of R218 on the trace. -/
def Obligations.StoresWriteTheRegisterAtTheEffectiveAddress : Prop :=
  ∀ (op : Byte) (i : Instr) (r : Reg), (op, i, r) ∈
      [(0x85#8, Instr.staZp, Reg.a), (0x95#8, Instr.staZpx, Reg.a), (0x8D#8, Instr.staAbs, Reg.a),
        (0x9D#8, Instr.staAbx, Reg.a), (0x99#8, Instr.staAby, Reg.a), (0x81#8, Instr.staIzx, Reg.a),
        (0x91#8, Instr.staIzy, Reg.a), (0x86#8, Instr.stxZp, Reg.x), (0x96#8, Instr.stxZpy, Reg.x),
        (0x8E#8, Instr.stxAbs, Reg.x), (0x84#8, Instr.styZp, Reg.y), (0x94#8, Instr.styZpx, Reg.y),
        (0x8C#8, Instr.styAbs, Reg.y)] →
    i.opcode = op ∧ ∀ s : State, AtBoundary s → s.mem.wf = true →
      ∃ ea t, effectiveAddr i.mode s = some ea ∧ exec i s = .next t ∧ AtBoundary t ∧
        t.mem.at ea = s.reg r ∧ Kept [] [] [ea] s t ∧ PcAdvanced i s t ∧
        TraceIs s t (modeTrace i.mode .write s ++ [writeEntry ea (s.reg r)])

/-- O27 (R321, R320, R322). From a boundary with D clear, or with PARAM_DECIMAL = nmos, each of the 8 ADC opcodes
completes with A, N, V, Z, C those of the binary function when D is 0 and of the NMOS decimal function when D is 1,
everything else unchanged, PC past the instruction, and the reads of R217 on the trace. -/
def Obligations.AddWithCarry : Prop :=
  ∀ (op : Byte) (i : Instr), (op, i) ∈
      [(0x69#8, Instr.adcImm), (0x65#8, Instr.adcZp), (0x75#8, Instr.adcZpx), (0x6D#8, Instr.adcAbs),
        (0x7D#8, Instr.adcAbx), (0x79#8, Instr.adcAby), (0x61#8, Instr.adcIzx), (0x71#8, Instr.adcIzy)] →
    i.opcode = op ∧ ∀ s : State, AtBoundary s → (getFlag s.p .d = false ∨ s.decimal = .nmos) →
      ∃ m t, operandByte i.mode s = some m ∧ exec i s = .next t ∧ AtBoundary t ∧
        (let r := if getFlag s.p .d then adcDecimal s.a m (getFlag s.p .c) else adcBinary s.a m (getFlag s.p .c);
          t.a = r.value ∧ ArithFlagsOf t r) ∧
        Kept [.a] [.n, .v, .z, .c] [] s t ∧ PcAdvanced i s t ∧ TraceIs s t (modeTrace i.mode .read s)

/-- O28 (R325, R323, R324). From a boundary with D clear, or with PARAM_DECIMAL = nmos, each of the 8 SBC opcodes
completes with A, N, V, Z, C those of the binary function when D is 0 and of the NMOS decimal function when D is 1,
everything else unchanged, PC past the instruction, and the reads of R217 on the trace. -/
def Obligations.SubtractWithBorrow : Prop :=
  ∀ (op : Byte) (i : Instr), (op, i) ∈
      [(0xE9#8, Instr.sbcImm), (0xE5#8, Instr.sbcZp), (0xF5#8, Instr.sbcZpx), (0xED#8, Instr.sbcAbs),
        (0xFD#8, Instr.sbcAbx), (0xF9#8, Instr.sbcAby), (0xE1#8, Instr.sbcIzx), (0xF1#8, Instr.sbcIzy)] →
    i.opcode = op ∧ ∀ s : State, AtBoundary s → (getFlag s.p .d = false ∨ s.decimal = .nmos) →
      ∃ m t, operandByte i.mode s = some m ∧ exec i s = .next t ∧ AtBoundary t ∧
        (let r := if getFlag s.p .d then sbcDecimal s.a m (getFlag s.p .c) else sbcBinary s.a m (getFlag s.p .c);
          t.a = r.value ∧ ArithFlagsOf t r) ∧
        Kept [.a] [.n, .v, .z, .c] [] s t ∧ PcAdvanced i s t ∧ TraceIs s t (modeTrace i.mode .read s)

/-- O29 (R326, R614). From a boundary with D set and PARAM_DECIMAL = open, each ADC and SBC opcode completes; A and N, V,
Z, C are some values, about which nothing is said, and every other register and flag, memory, PC and the bus trace are
as in any other mode. One draw is counted (the model's own counter, assumption log 6). -/
def Obligations.OpenDecimalLeavesOnlyTheResultOpen : Prop :=
  ∀ (op : Byte) (i : Instr), (op, i) ∈
      [(0x69#8, Instr.adcImm), (0x65#8, Instr.adcZp), (0x75#8, Instr.adcZpx), (0x6D#8, Instr.adcAbs),
        (0x7D#8, Instr.adcAbx), (0x79#8, Instr.adcAby), (0x61#8, Instr.adcIzx), (0x71#8, Instr.adcIzy),
        (0xE9#8, Instr.sbcImm), (0xE5#8, Instr.sbcZp), (0xF5#8, Instr.sbcZpx), (0xED#8, Instr.sbcAbs),
        (0xFD#8, Instr.sbcAbx), (0xF9#8, Instr.sbcAby), (0xE1#8, Instr.sbcIzx), (0xF1#8, Instr.sbcIzy)] →
    i.opcode = op ∧ ∀ s : State, AtBoundary s → getFlag s.p .d = true → s.decimal = .openDraw →
      ∃ t, exec i s = .next t ∧ AtBoundary t ∧ RegsBut [.a] s t ∧ FlagsBut [.n, .v, .z, .c] s t ∧
        MemBut [] s t ∧ ModeKept s t ∧ t.draws = s.draws + 1 ∧ PcAdvanced i s t ∧
        TraceIs s t (modeTrace i.mode .read s)

/-- O30 (R320). For all bytes and carry: result plus 256 times C is the sum of the operands and the carry in; V is set
exactly when the sum of the operands as signed bytes and the carry is outside -128 to 127; N is bit 7 and Z is zero of
the result. -/
def Obligations.BinaryAddIsIntegerAddition : Prop :=
  ∀ (a m : Byte) (c : Bool),
    let r := adcBinary a m c
    r.value.toNat + 256 * r.c.toNat = a.toNat + m.toNat + c.toNat ∧
      (r.v = true ↔ a.toInt + m.toInt + c.toNat < -128 ∨ 127 < a.toInt + m.toInt + c.toNat) ∧
      r.n = r.value.getLsbD 7 ∧ r.z = (r.value == 0#8)

/-- O31 (R323). For all bytes and carry: C is set exactly when a >= m + (1 - c); the result is the difference, plus 256
when there is a borrow; V is set exactly when the signed difference is outside -128 to 127; N is bit 7 and Z is zero
of the result. -/
def Obligations.BinarySubtractIsIntegerSubtraction : Prop :=
  ∀ (a m : Byte) (c : Bool),
    let r := sbcBinary a m c
    (r.c = true ↔ m.toNat + (1 - c.toNat) ≤ a.toNat) ∧
      r.value.toNat + m.toNat + (1 - c.toNat) = a.toNat + 256 * (1 - r.c.toNat) ∧
      (r.v = true ↔
        a.toInt - m.toInt - (1 - c.toNat : Int) < -128 ∨ 127 < a.toInt - m.toInt - (1 - c.toNat : Int)) ∧
      r.n = r.value.getLsbD 7 ∧ r.z = (r.value == 0#8)

/-- O32 (R322). For all bytes and carry, with lo the sum of the low digits and the carry, half its carry (lo at least 10),
and hi the sum of the high digits and half: each digit of the result is its sum, plus 6 mod 16 when the sum is at
least 10; C is set exactly when hi is at least 10; N is bit 3 of hi before the correction; V is set exactly when the
high digits as signed nibbles and half add up to a value outside -8 to 7; Z follows the binary sum. For two packed BCD
bytes the result is packed BCD, and its value plus 100 times C is the sum of the two values and the carry in. -/
def Obligations.DecimalAddOfDigitsIsDecimalAddition : Prop :=
  ∀ (a m : Byte) (c : Bool),
    let r := adcDecimal a m c
    let lo := a.toNat % 16 + m.toNat % 16 + c.toNat
    let half := if 10 ≤ lo then 1 else 0
    let hi := a.toNat / 16 + m.toNat / 16 + half
    r.value.toNat % 16 = (if 10 ≤ lo then (lo + 6) % 16 else lo) ∧
      r.value.toNat / 16 = (if 10 ≤ hi then (hi + 6) % 16 else hi) ∧
      (r.c = true ↔ 10 ≤ hi) ∧ (r.n = true ↔ 8 ≤ hi % 16) ∧
      (r.v = true ↔ a.toInt / 16 + m.toInt / 16 + half < -8 ∨ 7 < a.toInt / 16 + m.toInt / 16 + half) ∧
      r.z = (adcBinary a m c).z ∧
      (isBcd a = true → isBcd m = true →
        isBcd r.value = true ∧ bcdValue r.value + 100 * r.c.toNat = bcdValue a + bcdValue m + c.toNat)

/-- O33 (R324). For all bytes and carry (not borrow), N, V, Z and C are those of the binary subtract; with lo the
difference of the low digits and the borrow in, and hi the difference of the high digits and the borrow of lo: each
digit of the result is its difference, less 6 mod 16 when the difference is negative. For two packed BCD bytes the
result is packed BCD, its value is the difference of the two values and the borrow, plus 100 when C is 0, and C is set
exactly when there is no borrow. -/
def Obligations.DecimalSubtractOfDigitsIsDecimalSubtraction : Prop :=
  ∀ (a m : Byte) (c : Bool),
    let r := sbcDecimal a m c
    let b := sbcBinary a m c
    let lo : Int := a.toNat % 16 - m.toNat % 16 - (1 - c.toNat)
    let hi : Int := a.toNat / 16 - m.toNat / 16 - (if lo < 0 then 1 else 0)
    r.n = b.n ∧ r.v = b.v ∧ r.z = b.z ∧ r.c = b.c ∧
      (r.value.toNat : Int) % 16 = (if lo < 0 then (lo - 6) % 16 else lo) ∧
      (r.value.toNat : Int) / 16 = (if hi < 0 then (hi - 6) % 16 else hi) ∧
      (isBcd a = true → isBcd m = true →
        isBcd r.value = true ∧
          bcdValue r.value + bcdValue m + (1 - c.toNat) = bcdValue a + 100 * (1 - r.c.toNat) ∧
          (r.c = true ↔ bcdValue m + (1 - c.toNat) ≤ bcdValue a))

/-- O34 (R327). From a boundary, each of the 8 AND opcodes completes with A & M in A, N and Z from it, everything else
unchanged, PC past the instruction, and the reads of R217 on the trace. -/
def Obligations.AndIntoTheAccumulator : Prop :=
  ∀ (op : Byte) (i : Instr), (op, i) ∈
      [(0x29#8, Instr.andImm), (0x25#8, Instr.andZp), (0x35#8, Instr.andZpx), (0x2D#8, Instr.andAbs),
        (0x3D#8, Instr.andAbx), (0x39#8, Instr.andAby), (0x21#8, Instr.andIzx), (0x31#8, Instr.andIzy)] →
    i.opcode = op ∧ ∀ s : State, AtBoundary s →
      ∃ m t, operandByte i.mode s = some m ∧ exec i s = .next t ∧ AtBoundary t ∧
        t.a = s.a &&& m ∧ NZOf t (s.a &&& m) ∧ Kept [.a] [.n, .z] [] s t ∧ PcAdvanced i s t ∧
        TraceIs s t (modeTrace i.mode .read s)

/-- O35 (R328). From a boundary, each of the 8 ORA opcodes completes with A | M in A, N and Z from it, everything else
unchanged, PC past the instruction, and the reads of R217 on the trace. -/
def Obligations.OrIntoTheAccumulator : Prop :=
  ∀ (op : Byte) (i : Instr), (op, i) ∈
      [(0x09#8, Instr.oraImm), (0x05#8, Instr.oraZp), (0x15#8, Instr.oraZpx), (0x0D#8, Instr.oraAbs),
        (0x1D#8, Instr.oraAbx), (0x19#8, Instr.oraAby), (0x01#8, Instr.oraIzx), (0x11#8, Instr.oraIzy)] →
    i.opcode = op ∧ ∀ s : State, AtBoundary s →
      ∃ m t, operandByte i.mode s = some m ∧ exec i s = .next t ∧ AtBoundary t ∧
        t.a = s.a ||| m ∧ NZOf t (s.a ||| m) ∧ Kept [.a] [.n, .z] [] s t ∧ PcAdvanced i s t ∧
        TraceIs s t (modeTrace i.mode .read s)

/-- O36 (R329). From a boundary, each of the 8 EOR opcodes completes with A ^ M in A, N and Z from it, everything else
unchanged, PC past the instruction, and the reads of R217 on the trace. -/
def Obligations.ExclusiveOrIntoTheAccumulator : Prop :=
  ∀ (op : Byte) (i : Instr), (op, i) ∈
      [(0x49#8, Instr.eorImm), (0x45#8, Instr.eorZp), (0x55#8, Instr.eorZpx), (0x4D#8, Instr.eorAbs),
        (0x5D#8, Instr.eorAbx), (0x59#8, Instr.eorAby), (0x41#8, Instr.eorIzx), (0x51#8, Instr.eorIzy)] →
    i.opcode = op ∧ ∀ s : State, AtBoundary s →
      ∃ m t, operandByte i.mode s = some m ∧ exec i s = .next t ∧ AtBoundary t ∧
        t.a = s.a ^^^ m ∧ NZOf t (s.a ^^^ m) ∧ Kept [.a] [.n, .z] [] s t ∧ PcAdvanced i s t ∧
        TraceIs s t (modeTrace i.mode .read s)

/-- O37 (R330, R331, R332). From a boundary, each of the 14 compare opcodes completes with C set exactly when the register
is at least the operand unsigned, Z when they are equal, N from bit 7 of the difference; V and every register and all
of memory are unchanged, PC is past the instruction, and the reads of R217 are on the trace. -/
def Obligations.ComparesSetCarryZeroAndNegative : Prop :=
  ∀ (op : Byte) (i : Instr) (r : Reg), (op, i, r) ∈
      [(0xC9#8, Instr.cmpImm, Reg.a), (0xC5#8, Instr.cmpZp, Reg.a), (0xD5#8, Instr.cmpZpx, Reg.a),
        (0xCD#8, Instr.cmpAbs, Reg.a), (0xDD#8, Instr.cmpAbx, Reg.a), (0xD9#8, Instr.cmpAby, Reg.a),
        (0xC1#8, Instr.cmpIzx, Reg.a), (0xD1#8, Instr.cmpIzy, Reg.a), (0xE0#8, Instr.cpxImm, Reg.x),
        (0xE4#8, Instr.cpxZp, Reg.x), (0xEC#8, Instr.cpxAbs, Reg.x), (0xC0#8, Instr.cpyImm, Reg.y),
        (0xC4#8, Instr.cpyZp, Reg.y), (0xCC#8, Instr.cpyAbs, Reg.y)] →
    i.opcode = op ∧ ∀ s : State, AtBoundary s →
      ∃ m t, operandByte i.mode s = some m ∧ exec i s = .next t ∧ AtBoundary t ∧
        getFlag t.p .c = decide (m.toNat ≤ (s.reg r).toNat) ∧ getFlag t.p .z = (s.reg r == m) ∧
        getFlag t.p .n = (s.reg r - m).getLsbD 7 ∧
        Kept [] [.n, .z, .c] [] s t ∧ PcAdvanced i s t ∧ TraceIs s t (modeTrace i.mode .read s)

/-- O38 (R333). From a boundary, each of the 2 BIT opcodes completes with Z from A AND the operand and N and V from bits 7
and 6 of the operand; everything else is unchanged, PC is past the instruction, and the reads of R217 are on the
trace. -/
def Obligations.BitTestsTheOperand : Prop :=
  ∀ (op : Byte) (i : Instr), (op, i) ∈ [(0x24#8, Instr.bitZp), (0x2C#8, Instr.bitAbs)] →
    i.opcode = op ∧ ∀ s : State, AtBoundary s →
      ∃ m t, operandByte i.mode s = some m ∧ exec i s = .next t ∧ AtBoundary t ∧
        getFlag t.p .z = (s.a &&& m == 0#8) ∧ getFlag t.p .n = m.getLsbD 7 ∧ getFlag t.p .v = m.getLsbD 6 ∧
        Kept [] [.n, .v, .z] [] s t ∧ PcAdvanced i s t ∧ TraceIs s t (modeTrace i.mode .read s)

/-- O39 (R350, R351, R352, R353, R354). From a boundary, each of the 4 accumulator shifts and rotates completes with the
shifted value in A, C the bit shifted out, N and Z from the result, everything else unchanged, PC past the opcode, and
two reads on the trace: the opcode and the byte after it. -/
def Obligations.AccumulatorShifts : Prop :=
  ∀ (op : Byte) (i : Instr), (op, i) ∈
      [(0x0A#8, Instr.aslAcc), (0x4A#8, Instr.lsrAcc), (0x2A#8, Instr.rolAcc), (0x6A#8, Instr.rorAcc)] →
    i.opcode = op ∧ ∀ s : State, AtBoundary s →
      ∃ t, exec i s = .next t ∧ AtBoundary t ∧
        (let new := rmwResult i.mnemonic s.a (getFlag s.p .c);
          t.a = new ∧ NZOf t new) ∧
        getFlag t.p .c = rmwCarry i.mnemonic s.a (getFlag s.p .c) ∧
        Kept [.a] [.n, .z, .c] [] s t ∧ PcAdvanced i s t ∧ TraceIs s t (impliedTrace s)

/-- O40 (R215, R216, R219, R355, R356). From a boundary over a canonical memory, each of the 24 read-modify-write opcodes
completes with the result at the effective address, N and Z from it, C as the shift says (unchanged by INC and DEC);
every other byte of memory, every register and every other flag is unchanged; PC is past the instruction; and the
trace shows the reads of R219, then the write of the old byte and the write of the new one, both at the effective
address. -/
def Obligations.ReadModifyWriteStoresTwice : Prop :=
  ∀ (op : Byte) (i : Instr), (op, i) ∈
      [(0x06#8, Instr.aslZp), (0x16#8, Instr.aslZpx), (0x0E#8, Instr.aslAbs), (0x1E#8, Instr.aslAbx),
        (0x46#8, Instr.lsrZp), (0x56#8, Instr.lsrZpx), (0x4E#8, Instr.lsrAbs), (0x5E#8, Instr.lsrAbx),
        (0x26#8, Instr.rolZp), (0x36#8, Instr.rolZpx), (0x2E#8, Instr.rolAbs), (0x3E#8, Instr.rolAbx),
        (0x66#8, Instr.rorZp), (0x76#8, Instr.rorZpx), (0x6E#8, Instr.rorAbs), (0x7E#8, Instr.rorAbx),
        (0xE6#8, Instr.incZp), (0xF6#8, Instr.incZpx), (0xEE#8, Instr.incAbs), (0xFE#8, Instr.incAbx),
        (0xC6#8, Instr.decZp), (0xD6#8, Instr.decZpx), (0xCE#8, Instr.decAbs), (0xDE#8, Instr.decAbx)] →
    i.opcode = op ∧ ∀ s : State, AtBoundary s → s.mem.wf = true →
      ∃ ea t, effectiveAddr i.mode s = some ea ∧ exec i s = .next t ∧ AtBoundary t ∧
        (let old := s.mem.at ea;
          let new := rmwResult i.mnemonic old (getFlag s.p .c)
          t.mem.at ea = new ∧ NZOf t new ∧ getFlag t.p .c = rmwCarry i.mnemonic old (getFlag s.p .c) ∧
            TraceIs s t (modeTrace i.mode .rmw s ++ [writeEntry ea old, writeEntry ea new])) ∧
        Kept [] [.n, .z, .c] [ea] s t ∧ PcAdvanced i s t

/-- O41 (R357, R358, R359, R360). From a boundary, each completes with its register one more or one less mod 256, N and Z
from it, everything else unchanged, PC past the opcode, and two reads on the trace. -/
def Obligations.RegisterIncrementsAndDecrements : Prop :=
  ∀ (op : Byte) (i : Instr) (r : Reg) (d : Byte), (op, i, r, d) ∈
      [(0xE8#8, Instr.inx, Reg.x, 1#8), (0xC8#8, Instr.iny, Reg.y, 1#8),
        (0xCA#8, Instr.dex, Reg.x, -1#8), (0x88#8, Instr.dey, Reg.y, -1#8)] →
    i.opcode = op ∧ ∀ s : State, AtBoundary s →
      ∃ t, exec i s = .next t ∧ AtBoundary t ∧ t.reg r = s.reg r + d ∧ NZOf t (s.reg r + d) ∧
        Kept [r] [.n, .z] [] s t ∧ PcAdvanced i s t ∧ TraceIs s t (impliedTrace s)

/-- O42 (R371, R372, R373, R374, R375). From a boundary, each completes with the source register's byte in the
destination, N and Z from it, everything else unchanged, PC past the opcode, and two reads on the trace. -/
def Obligations.TransfersCopyAndSetNZ : Prop :=
  ∀ (op : Byte) (i : Instr) (src dst : Reg), (op, i, src, dst) ∈
      [(0xAA#8, Instr.tax, Reg.a, Reg.x), (0xA8#8, Instr.tay, Reg.a, Reg.y), (0x8A#8, Instr.txa, Reg.x, Reg.a),
        (0x98#8, Instr.tya, Reg.y, Reg.a), (0xBA#8, Instr.tsx, Reg.s, Reg.x)] →
    i.opcode = op ∧ ∀ s : State, AtBoundary s →
      ∃ t, exec i s = .next t ∧ AtBoundary t ∧ t.reg dst = s.reg src ∧ NZOf t (s.reg src) ∧
        Kept [dst] [.n, .z] [] s t ∧ PcAdvanced i s t ∧ TraceIs s t (impliedTrace s)

/-- O43 (R376). From a boundary TXS completes with X in S, no flag written, everything else unchanged, PC past the opcode,
and two reads on the trace. -/
def Obligations.TxsSetsTheStackPointerAndNoFlag : Prop :=
  Instr.opcode .txs = 0x9A#8 ∧ ∀ s : State, AtBoundary s →
    ∃ t, exec .txs s = .next t ∧ AtBoundary t ∧ t.sp = s.x ∧ Kept [.s] [] [] s t ∧ t.p = s.p ∧
      PcAdvanced .txs s t ∧ TraceIs s t (impliedTrace s)

/-- O44 (R377, R378, R379, R380, R381, R382, R383). From a boundary, each completes with its flag at the value it names,
every other flag and bits 5 and 4 of P, every register and all of memory unchanged, PC past the opcode, and two reads
on the trace. -/
def Obligations.FlagInstructionsWriteOneFlag : Prop :=
  ∀ (op : Byte) (i : Instr) (f : Flag) (b : Bool), (op, i, f, b) ∈
      [(0x18#8, Instr.clc, Flag.c, false), (0x38#8, Instr.sec, Flag.c, true), (0x58#8, Instr.cli, Flag.i, false),
        (0x78#8, Instr.sei, Flag.i, true), (0xD8#8, Instr.cld, Flag.d, false), (0xF8#8, Instr.sed, Flag.d, true),
        (0xB8#8, Instr.clv, Flag.v, false)] →
    i.opcode = op ∧ ∀ s : State, AtBoundary s →
      ∃ t, exec i s = .next t ∧ AtBoundary t ∧ getFlag t.p f = b ∧ Kept [] [f] [] s t ∧ PcAdvanced i s t ∧
        TraceIs s t (impliedTrace s)

/-- O45 (R384). From a boundary NOP completes with PC one further and no other register, flag or byte of memory changed;
its trace is the opcode fetch and the dummy read of the next address, where the next opcode fetch is then pending. -/
def Obligations.NopOnlyAdvancesPc : Prop :=
  Instr.opcode .nop = 0xEA#8 ∧ ∀ s : State, AtBoundary s →
    ∃ t, exec .nop s = .next t ∧ AtBoundary t ∧ Kept [] [] [] s t ∧ t.p = s.p ∧ t.pc = s.pc + 1#16 ∧
      t.bus.address = s.pc + 1#16 ∧ TraceIs s t (impliedTrace s)

/-- O46 (R391, R392, R393, R394, R395, R396, R397, R398, R399). From a boundary, each branch completes with no register
but PC and no flag or byte of memory changed. Not taken: PC is the next instruction, after two reads. Taken: PC is the
next instruction's address plus the signed offset, after three reads when the target is in the page of the next
instruction and four when it is not, the last at the uncorrected target. -/
def Obligations.BranchesTestTheirFlag : Prop :=
  ∀ (op : Byte) (i : Instr) (f : Flag) (b : Bool), (op, i, f, b) ∈
      [(0x10#8, Instr.bpl, Flag.n, false), (0x30#8, Instr.bmi, Flag.n, true),
        (0x50#8, Instr.bvc, Flag.v, false), (0x70#8, Instr.bvs, Flag.v, true),
        (0x90#8, Instr.bcc, Flag.c, false), (0xB0#8, Instr.bcs, Flag.c, true),
        (0xD0#8, Instr.bne, Flag.z, false), (0xF0#8, Instr.beq, Flag.z, true)] →
    i.opcode = op ∧ ∀ s : State, AtBoundary s →
      ∃ t, exec i s = .next t ∧ AtBoundary t ∧ Kept [] [] [] s t ∧
        (let next := s.pc + 2#16;
          let target := next + sext16 (byte1 s)
          let fetched := [readEntry s.mem s.pc, readEntry s.mem (s.pc + 1#16)]
          (getFlag s.p f ≠ b → t.pc = next ∧ TraceIs s t fetched) ∧
            (getFlag s.p f = b → t.pc = target ∧
              (hi8 target = hi8 next → TraceIs s t (fetched ++ [readEntry s.mem next])) ∧
              (hi8 target ≠ hi8 next →
                TraceIs s t
                  (fetched ++ [readEntry s.mem next, readEntry s.mem (mk16 (hi8 next) (lo8 target))]))))

/-- O47 (R400). From a boundary over a canonical memory PHA completes with A at 0x0100 | S, S one less mod 256, every
other byte of memory, every other register and every flag unchanged, PC past the opcode, and the three accesses of
R400 on the trace. -/
def Obligations.PhaPushesTheAccumulator : Prop :=
  Instr.opcode .pha = 0x48#8 ∧ ∀ s : State, AtBoundary s → s.mem.wf = true →
    ∃ t, exec .pha s = .next t ∧ AtBoundary t ∧ t.mem.at (stackAddr s.sp) = s.a ∧ t.sp = s.sp - 1#8 ∧
      Kept [.s] [] [stackAddr s.sp] s t ∧ t.p = s.p ∧ PcAdvanced .pha s t ∧
      TraceIs s t (impliedTrace s ++ [writeEntry (stackAddr s.sp) s.a])

/-- O48 (R401). From a boundary over a canonical memory PHP completes with P | 0x30 at 0x0100 | S, S one less mod 256, P
itself and everything else unchanged, PC past the opcode, and three accesses on the trace. -/
def Obligations.PhpPushesTheStatusWithBitsFiveAndFourSet : Prop :=
  Instr.opcode .php = 0x08#8 ∧ ∀ s : State, AtBoundary s → s.mem.wf = true →
    ∃ t, exec .php s = .next t ∧ AtBoundary t ∧ t.mem.at (stackAddr s.sp) = s.p ||| 0x30#8 ∧
      t.sp = s.sp - 1#8 ∧ Kept [.s] [] [stackAddr s.sp] s t ∧ t.p = s.p ∧ PcAdvanced .php s t ∧
      TraceIs s t (impliedTrace s ++ [writeEntry (stackAddr s.sp) (s.p ||| 0x30#8)])

/-- O49 (R402). From a boundary PLA completes with S one more mod 256 and the byte at 0x0100 | S, with the new S, in A, N
and Z from it, everything else unchanged, PC past the opcode, and the four reads of R402 on the trace. -/
def Obligations.PlaPullsTheAccumulator : Prop :=
  Instr.opcode .pla = 0x68#8 ∧ ∀ s : State, AtBoundary s →
    ∃ t, exec .pla s = .next t ∧ AtBoundary t ∧
      (let m := s.mem.at (stackAddr (s.sp + 1#8));
        t.a = m ∧ NZOf t m) ∧
      t.sp = s.sp + 1#8 ∧ Kept [.a, .s] [.n, .z] [] s t ∧ PcAdvanced .pla s t ∧
      TraceIs s t (impliedTrace s ++
        [readEntry s.mem (stackAddr s.sp), readEntry s.mem (stackAddr (s.sp + 1#8))])

/-- O50 (R403). From a boundary PLP completes with S one more mod 256 and P the pulled byte with bit 5 set and bit 4
cleared, every other register and all of memory unchanged, PC past the opcode, and four reads on the trace. -/
def Obligations.PlpPullsTheStatus : Prop :=
  Instr.opcode .plp = 0x28#8 ∧ ∀ s : State, AtBoundary s →
    ∃ t, exec .plp s = .next t ∧ AtBoundary t ∧
      t.p = (s.mem.at (stackAddr (s.sp + 1#8)) ||| 0x20#8) &&& 0xEF#8 ∧ t.sp = s.sp + 1#8 ∧
      RegsBut [.s] s t ∧ MemBut [] s t ∧ ModeKept s t ∧ t.draws = s.draws ∧ PcAdvanced .plp s t ∧
      TraceIs s t (impliedTrace s ++
        [readEntry s.mem (stackAddr s.sp), readEntry s.mem (stackAddr (s.sp + 1#8))])

/-- O51 (R410). From a boundary JMP completes with PC the operand word, or the word at the pointer with its high byte from
the pointer's own page; nothing else changes; the trace is the three or five reads of R410. -/
def Obligations.JmpLoadsPc : Prop :=
  (Instr.opcode .jmpAbs = 0x4C#8 ∧ ∀ s : State, AtBoundary s →
      ∃ t, exec .jmpAbs s = .next t ∧ AtBoundary t ∧ t.pc = word12 s ∧ Kept [] [] [] s t ∧ t.p = s.p ∧
        TraceIs s t ([s.pc, s.pc + 1#16, s.pc + 2#16].map (readEntry s.mem))) ∧
    (Instr.opcode .jmpInd = 0x6C#8 ∧ ∀ s : State, AtBoundary s →
      ∃ t, exec .jmpInd s = .next t ∧ AtBoundary t ∧
        (let ptr := word12 s;
          let ptr' := mk16 (hi8 ptr) (lo8 ptr + 1#8)
          t.pc = mk16 (s.mem.at ptr') (s.mem.at ptr) ∧
            TraceIs s t ([s.pc, s.pc + 1#16, s.pc + 2#16, ptr, ptr'].map (readEntry s.mem))) ∧
        Kept [] [] [] s t ∧ t.p = s.p)

/-- O52 (R411). From a boundary over a canonical memory JSR completes with the address of its last byte pushed, high byte
first, S two less mod 256, and PC the target, whose high byte is read after the pushes; everything else is unchanged;
the trace is the six accesses of R411. -/
def Obligations.JsrPushesTheReturnAddress : Prop :=
  Instr.opcode .jsrAbs = 0x20#8 ∧ ∀ s : State, AtBoundary s → s.mem.wf = true →
    ∃ t, exec .jsrAbs s = .next t ∧ AtBoundary t ∧
      (let ret := s.pc + 2#16;
        let s0 := stackAddr s.sp
        let s1 := stackAddr (s.sp - 1#8)
        t.mem.at s0 = hi8 ret ∧ t.mem.at s1 = lo8 ret ∧ t.pc = mk16 (t.mem.at ret) (byte1 s) ∧
          Kept [.s] [] [s0, s1] s t ∧
          TraceIs s t
            [readEntry s.mem s.pc, readEntry s.mem (s.pc + 1#16), readEntry s.mem s0,
              writeEntry s0 (hi8 ret), writeEntry s1 (lo8 ret), readEntry t.mem ret]) ∧
      t.sp = s.sp - 2#8 ∧ t.p = s.p

/-- O53 (R412). From a boundary RTS completes with PC one more than the word pulled, low byte first, and S two more mod
256; everything else is unchanged; the trace is the six reads of R412. -/
def Obligations.RtsPullsTheReturnAddress : Prop :=
  Instr.opcode .rts = 0x60#8 ∧ ∀ s : State, AtBoundary s →
    ∃ t, exec .rts s = .next t ∧ AtBoundary t ∧
      (let lo := stackAddr (s.sp + 1#8);
        let hi := stackAddr (s.sp + 2#8)
        let ret := mk16 (s.mem.at hi) (s.mem.at lo)
        t.pc = ret + 1#16 ∧
          TraceIs s t ([s.pc, s.pc + 1#16, stackAddr s.sp, lo, hi, ret].map (readEntry s.mem))) ∧
      t.sp = s.sp + 2#8 ∧ Kept [.s] [] [] s t ∧ t.p = s.p

/-- O54 (R413). From a boundary RTI completes with P the first byte pulled, bit 5 set and bit 4 cleared, PC the word
pulled after it, low byte first and with nothing added, and S three more mod 256; A, X, Y and memory are unchanged;
the trace is the six reads of R413. -/
def Obligations.RtiRestoresStatusAndPc : Prop :=
  Instr.opcode .rti = 0x40#8 ∧ ∀ s : State, AtBoundary s →
    ∃ t, exec .rti s = .next t ∧ AtBoundary t ∧
      (let st := stackAddr (s.sp + 1#8);
        let lo := stackAddr (s.sp + 2#8)
        let hi := stackAddr (s.sp + 3#8)
        t.p = (s.mem.at st ||| 0x20#8) &&& 0xEF#8 ∧ t.pc = mk16 (s.mem.at hi) (s.mem.at lo) ∧
          TraceIs s t ([s.pc, s.pc + 1#16, stackAddr s.sp, st, lo, hi].map (readEntry s.mem))) ∧
      t.sp = s.sp + 3#8 ∧ RegsBut [.s] s t ∧ MemBut [] s t ∧ ModeKept s t ∧ t.draws = s.draws

/-- O55 (R414, R506). From a boundary over a canonical memory BRK completes with the address two past its opcode pushed,
high byte first, then P | 0x30 with the old I; S is three less mod 256; I is set and every other bit of P, D among
them, is kept; PC is the word at 0xFFFE and 0xFFFF; everything else is unchanged; the trace is the seven accesses of
R414. -/
def Obligations.BrkTakesTheTrap : Prop :=
  Instr.opcode .brk = 0x00#8 ∧ ∀ s : State, AtBoundary s → s.mem.wf = true →
    ∃ t, exec .brk s = .next t ∧ AtBoundary t ∧
      (let ret := s.pc + 2#16;
        let s0 := stackAddr s.sp
        let s1 := stackAddr (s.sp - 1#8)
        let s2 := stackAddr (s.sp - 2#8)
        t.mem.at s0 = hi8 ret ∧ t.mem.at s1 = lo8 ret ∧ t.mem.at s2 = s.p ||| 0x30#8 ∧
          Kept [.s] [.i] [s0, s1, s2] s t ∧
          TraceIs s t
            [readEntry s.mem s.pc, readEntry s.mem (s.pc + 1#16), writeEntry s0 (hi8 ret), writeEntry s1 (lo8 ret),
              writeEntry s2 (s.p ||| 0x30#8), readEntry s.mem 0xFFFE#16, readEntry s.mem 0xFFFF#16]) ∧
      t.pc = mk16 (s.mem.at 0xFFFF#16) (s.mem.at 0xFFFE#16) ∧ t.sp = s.sp - 3#8 ∧ getFlag t.p .i = true

/-- O56 (R413, R414, R506, R507). From a boundary over a canonical memory, BRK followed by RTI leaves A, X, Y and S as
they were, PC two past the BRK, and P as it was but with bit 5 set and bit 4 cleared. -/
def Obligations.BrkThenRtiResumes : Prop :=
  ∀ s : State, AtBoundary s → s.mem.wf = true →
    ∃ t u, exec .brk s = .next t ∧ exec .rti t = .next u ∧ AtBoundary u ∧ u.pc = s.pc + 2#16 ∧
      RegsBut [] s u ∧ u.p = (s.p ||| 0x20#8) &&& 0xEF#8

/-- O57 (R411, R412). From a boundary over a canonical memory, JSR followed by RTS leaves A, X, Y, S and P as they were
and PC at the instruction after the JSR. -/
def Obligations.JsrThenRtsReturns : Prop :=
  ∀ s : State, AtBoundary s → s.mem.wf = true →
    ∃ t u, exec .jsrAbs s = .next t ∧ exec .rts t = .next u ∧ AtBoundary u ∧ u.pc = s.pc + 3#16 ∧
      RegsBut [] s u ∧ u.p = s.p

/-- O58 (R401, R403). From a boundary over a canonical memory, PHP followed by PLP leaves A, X, Y, S and the six flags as
they were and sets bit 5 and clears bit 4 of P. -/
def Obligations.PhpThenPlpRestoresTheFlags : Prop :=
  ∀ s : State, AtBoundary s → s.mem.wf = true →
    ∃ t u, exec .php s = .next t ∧ exec .plp t = .next u ∧ AtBoundary u ∧ RegsBut [] s u ∧
      u.p = (s.p ||| 0x20#8) &&& 0xEF#8
end

