-- ==== Sys2Proof/Laws/Bits.lean ====
section
/-! SUPPORT. The small laws of the byte and address helpers, and of index addition with its page-cross correction
(40_microops.md R156, R159 to R161). -/

namespace Sys2Proof

@[simp] theorem hi8_mk16 (h l : Byte) : hi8 (mk16 h l) = h := by
  apply BitVec.eq_of_getLsbD_eq
  intro i hi
  simp only [hi8, mk16, BitVec.getLsbD_extractLsb', BitVec.getLsbD_append]
  simp [hi]

@[simp] theorem lo8_mk16 (h l : Byte) : lo8 (mk16 h l) = l := by
  apply BitVec.eq_of_getLsbD_eq
  intro i hi
  simp only [lo8, mk16, BitVec.getLsbD_extractLsb', BitVec.getLsbD_append]
  simp [hi]

theorem toNat_hi8 (x : Addr) : (hi8 x).toNat = x.toNat / 256 := by
  have := x.isLt
  simp only [hi8, BitVec.extractLsb'_toNat, Nat.shiftRight_eq_div_pow]
  omega

theorem toNat_lo8 (x : Addr) : (lo8 x).toNat = x.toNat % 256 := by
  simp [lo8, BitVec.extractLsb'_toNat]

theorem toNat_mk16 (h l : Byte) : (mk16 h l).toNat = h.toNat * 256 + l.toNat := by
  have e : mk16 h l = (h ++ l : BitVec 16) := rfl
  have := l.isLt
  rw [e, BitVec.toNat_append, ← Nat.shiftLeft_add_eq_or_of_lt this, Nat.shiftLeft_eq]

@[simp] theorem mk16_hi8_lo8 (x : Addr) : mk16 (hi8 x) (lo8 x) = x := by
  apply BitVec.eq_of_toNat_eq
  rw [toNat_mk16, toNat_hi8, toNat_lo8]
  omega

theorem toNat_zext16 (b : Byte) : (zext16 b).toNat = b.toNat := by
  have := b.isLt
  simp only [zext16, BitVec.toNat_setWidth]
  omega

theorem mk16_zero (b : Byte) : mk16 0x00#8 b = zext16 b := by
  apply BitVec.eq_of_toNat_eq
  rw [toNat_mk16, toNat_zext16]
  simp

@[simp] theorem hi8_zext16 (b : Byte) : hi8 (zext16 b) = 0x00#8 := by rw [← mk16_zero, hi8_mk16]

@[simp] theorem lo8_zext16 (b : Byte) : lo8 (zext16 b) = b := by rw [← mk16_zero, lo8_mk16]

/-- R206: zero-page index addition wraps within page 0. -/
@[simp] theorem addZp_zext16 (b r : Byte) : mk16 (hi8 (zext16 b)) (lo8 (zext16 b) + r) = zext16 (b + r) := by
  rw [hi8_zext16, lo8_zext16, mk16_zero]

namespace Machine

/-- R208: with no page crossing the uncorrected address is the sum. -/
theorem addIdx_noCross {w : Addr} {i : Byte} (h : pageCross (lo8 w) i = false) :
    mk16 (hi8 w) (lo8 w + i) = w + zext16 i := by
  have hc : (lo8 w).toNat + i.toNat < 256 := by simpa [pageCross] using h
  apply BitVec.eq_of_toNat_eq
  have hw := w.isLt
  rw [toNat_lo8] at hc
  rw [toNat_mk16, toNat_hi8, BitVec.toNat_add, BitVec.toNat_add, toNat_lo8, toNat_zext16]
  omega

/-- R160, R161: with a page crossing the corrected address is the sum mod 2^16. -/
theorem addIdx_cross {w : Addr} {i : Byte} (h : pageCross (lo8 w) i = true) :
    mk16 (hi8 w) (lo8 w + i) + 0x0100#16 = w + zext16 i := by
  have hc : 256 ≤ (lo8 w).toNat + i.toNat := by simpa [pageCross] using h
  apply BitVec.eq_of_toNat_eq
  have hw := w.isLt
  have hi := i.isLt
  rw [toNat_lo8] at hc
  rw [BitVec.toNat_add, toNat_mk16, toNat_hi8, BitVec.toNat_add, BitVec.toNat_add, toNat_lo8, toNat_zext16]
  simp only [BitVec.toNat_ofNat]
  omega

/-- R36: every stack address lies in page 1. -/
@[simp] theorem hi8_stackAddr (sp : Byte) : hi8 (stackAddr sp) = 0x01#8 := hi8_mk16 _ _

/-- R36: the low byte of a stack address is the stack pointer. -/
@[simp] theorem lo8_stackAddr (sp : Byte) : lo8 (stackAddr sp) = sp := lo8_mk16 _ _

/-- R36: two stack pointers address two bytes. -/
@[simp] theorem stackAddr_inj {sp sp' : Byte} : stackAddr sp = stackAddr sp' ↔ sp = sp' :=
  ⟨fun h => by simpa using congrArg lo8 h, fun h => by rw [h]⟩

/-- R82: an address outside page 1 is no stack address. -/
theorem ne_stackAddr {a : Addr} {sp : Byte} (h : hi8 a ≠ 0x01#8) : a ≠ stackAddr sp := by
  rintro rfl
  exact h (hi8_stackAddr sp)

end Machine

end Sys2Proof
end

