-- ==== Sys2Proof/Laws/Flags.lean ====
section
/-! SUPPORT. The laws of the status byte: what each flag update leaves in each flag (10_state.md R38 to R42). -/

namespace Sys2Proof.Machine

/-- R170: every bit of a status byte after one flag is written. -/
theorem getLsbD_setFlag (p : Byte) (f : Flag) (b : Bool) (k : Nat) (hk : k < 8) :
    (setFlag p f b).getLsbD k = if k = flagBit f then b else p.getLsbD k := by
  have hf : flagBit f < 8 := by cases f <;> decide
  have one : ∀ j, j < 8 → (1#8 <<< flagBit f).getLsbD j = decide (j = flagBit f) := by
    cases f <;> decide
  cases b
  · simp only [setFlag, Bool.false_eq_true, if_false, BitVec.getLsbD_and, BitVec.getLsbD_not, one k hk, hk]
    by_cases h : k = flagBit f <;> simp [h]
  · simp only [setFlag, if_true, BitVec.getLsbD_or, one k hk]
    by_cases h : k = flagBit f <;> simp [h]

@[simp] theorem getFlag_setFlag (p : Byte) (f g : Flag) (b : Bool) :
    getFlag (setFlag p f b) g = if g = f then b else getFlag p g := by
  have hg : flagBit g < 8 := by cases g <;> decide
  rw [getFlag, getLsbD_setFlag p f b _ hg]
  have : flagBit g = flagBit f ↔ g = f := by cases f <;> cases g <;> decide
  simp [this, getFlag]

/-- R38, R39: each bit of the reserved pair. -/
theorem getLsbD_reservedBits (p : Byte) (k : Nat) (hk : k < 8) :
    (reservedBits p).getLsbD k = (p.getLsbD k && (k == 5 || k == 4)) := by
  have m : ∀ j, j < 8 → (0x30#8).getLsbD j = (j == 5 || j == 4) := by decide
  rw [reservedBits, BitVec.getLsbD_and, m k hk]

/-- R39: bits 5 and 4 are never changed by a single-flag write. -/
@[simp] theorem reservedBits_setFlag (p : Byte) (f : Flag) (b : Bool) :
    reservedBits (setFlag p f b) = reservedBits p := by
  apply BitVec.eq_of_getLsbD_eq
  intro k hk
  rw [getLsbD_reservedBits _ k hk, getLsbD_reservedBits _ k hk, getLsbD_setFlag p f b k hk]
  split
  · next h =>
    subst h
    cases f <;> simp [flagBit]
  · rfl

/-- R38: a status byte is its six flags and its reserved pair. -/
theorem status_ext {p q : Byte} (h : ∀ f, getFlag p f = getFlag q f) (hr : reservedBits p = reservedBits q) :
    p = q := by
  have hr5 : (reservedBits p).getLsbD 5 = (reservedBits q).getLsbD 5 := by rw [hr]
  have hr4 : (reservedBits p).getLsbD 4 = (reservedBits q).getLsbD 4 := by rw [hr]
  rw [getLsbD_reservedBits p 5 (by decide), getLsbD_reservedBits q 5 (by decide)] at hr5
  rw [getLsbD_reservedBits p 4 (by decide), getLsbD_reservedBits q 4 (by decide)] at hr4
  apply BitVec.eq_of_getLsbD_eq
  intro i hi
  match i, hi with
  | 0, _ => exact h .c
  | 1, _ => exact h .z
  | 2, _ => exact h .i
  | 3, _ => exact h .d
  | 4, _ => simpa using hr4
  | 5, _ => simpa using hr5
  | 6, _ => exact h .v
  | 7, _ => exact h .n

@[simp] theorem getFlag_setNZ (p r : Byte) (g : Flag) :
    getFlag (setNZ p r) g = if g = .n then r.getLsbD 7 else if g = .z then r == 0#8 else getFlag p g := by
  simp [setNZ]

@[simp] theorem reservedBits_setNZ (p r : Byte) : reservedBits (setNZ p r) = reservedBits p := by simp [setNZ]

@[simp] theorem getFlag_setArith (p : Byte) (r : Arith) (g : Flag) :
    getFlag (setArith p r) g =
      match g with
      | .n => r.n
      | .v => r.v
      | .z => r.z
      | .c => r.c
      | .d => getFlag p .d
      | .i => getFlag p .i := by
  cases g <;> simp [setArith]

@[simp] theorem reservedBits_setArith (p : Byte) (r : Arith) : reservedBits (setArith p r) = reservedBits p := by
  simp [setArith]

/-- R40, R166: a pushed status has bits 5 and 4 set and the flags of P. -/
@[simp] theorem getFlag_pushedStatus (p : Byte) (g : Flag) : getFlag (pushedStatus p) g = getFlag p g := by
  cases g <;> simp [getFlag, pushedStatus, flagBit]

/-- R39, R167: a status write takes every flag from the byte. -/
@[simp] theorem getFlag_pulledStatus (b : Byte) (g : Flag) : getFlag (pulledStatus b) g = getFlag b g := by
  cases g <;> simp [getFlag, pulledStatus, flagBit]

/-- R39, R167: a status write stores 1 in bit 5 and 0 in bit 4. -/
@[simp] theorem reservedBits_pulledStatus (b : Byte) : reservedBits (pulledStatus b) = 0x20#8 := by
  apply BitVec.eq_of_getLsbD_eq
  intro k hk
  have h20 : ∀ j, j < 8 → (0x20#8).getLsbD j = (j == 5) := by decide
  have hef : ∀ j, j < 8 → (0xEF#8).getLsbD j = (j != 4) := by decide
  rw [getLsbD_reservedBits _ k hk, pulledStatus, BitVec.getLsbD_and, BitVec.getLsbD_or, h20 k hk, hef k hk]
  rcases Nat.decEq k 5 with h5 | h5
  · rcases Nat.decEq k 4 with h4 | h4
    · simp [beq_eq_false_iff_ne.mpr h5, beq_eq_false_iff_ne.mpr h4]
    · simp [h4]
  · simp [h5]

/-- R403: pushing and pulling a status byte keeps every flag, sets bit 5 and clears bit 4. -/
@[simp] theorem pulled_pushed (p : Byte) : pulledStatus (pushedStatus p) = pulledStatus p := by
  apply status_ext <;> simp

end Sys2Proof.Machine
end

