-- ==== Sys2Proof/Laws/Memory.lean ====
section
/-! SUPPORT. The laws of memory: a read after a write, and that a write keeps the canonical form (20_memory.md R70,
R84). -/

namespace Sys2Proof.Machine

/-- In a memory whose cells start at `lo`, an address below `lo` is unlisted. -/
theorem Memory.read_below : ∀ {m : Memory} {lo a : Nat}, Memory.wfFrom lo m = true → a < lo →
    m.read a = Config.unlistedByte
  | [], _, _, _, _ => rfl
  | (k, b) :: m, lo, a, h, ha => by
    simp only [Memory.wfFrom, Bool.and_eq_true, decide_eq_true_eq] at h
    obtain ⟨⟨⟨hk, -⟩, -⟩, hm⟩ := h
    have : a ≠ k := by omega
    rw [Memory.read, if_neg this]
    exact Memory.read_below hm (by omega)

/-- R84: a write leaves every other address as it was. -/
theorem Memory.read_write_ne : ∀ {m : Memory} {a a' : Nat} {v : Byte}, a' ≠ a → (m.write a v).read a' = m.read a'
  | [], a, a', v, h => by
    rw [Memory.write]
    split <;> simp [Memory.read, h]
  | (k, b) :: m, a, a', v, h => by
    rw [Memory.write]
    split
    · split <;> simp [Memory.read, h]
    · split
      · next hk =>
        subst hk
        split <;> simp [Memory.read, h]
      · simp only [Memory.read]
        split
        · rfl
        · exact Memory.read_write_ne h

theorem Memory.read_write_eq_from : ∀ {m : Memory} {lo a : Nat} {v : Byte}, Memory.wfFrom lo m = true →
    (m.write a v).read a = v
  | [], lo, a, v, _ => by
    rw [Memory.write]
    split
    · next hv => simp [Memory.read, hv]
    · simp [Memory.read]
  | (k, b) :: m, lo, a, v, h => by
    have h' := h
    simp only [Memory.wfFrom, Bool.and_eq_true, decide_eq_true_eq] at h'
    obtain ⟨⟨⟨hk, -⟩, -⟩, hm⟩ := h'
    rw [Memory.write]
    split
    · next hlt =>
      split
      · next hv =>
        have hne : a ≠ k := by omega
        rw [Memory.read, if_neg hne, hv]
        exact Memory.read_below hm (by omega)
      · simp [Memory.read]
    · split
      · next hk' =>
        split
        · next hv =>
          subst hk'
          rw [hv]
          exact Memory.read_below hm (by omega)
        · simp [Memory.read]
      · next hne =>
        rw [Memory.read, if_neg hne]
        exact Memory.read_write_eq_from hm

/-- R84: a read returns the value of the last write to its address. -/
theorem Memory.read_write_eq {m : Memory} {a : Nat} {v : Byte} (h : m.wf = true) : (m.write a v).read a = v :=
  Memory.read_write_eq_from h

theorem Memory.write_wfFrom : ∀ {m : Memory} {lo a : Nat} {v : Byte}, Memory.wfFrom lo m = true → lo ≤ a →
    a < 65536 → Memory.wfFrom lo (m.write a v) = true
  | [], lo, a, v, _, hl, ha => by
    rw [Memory.write]
    split
    · rfl
    · next hv => simp [Memory.wfFrom, hl, ha, hv]
  | (k, b) :: m, lo, a, v, h, hl, ha => by
    have h' := h
    simp only [Memory.wfFrom, Bool.and_eq_true, decide_eq_true_eq] at h'
    obtain ⟨⟨⟨hk, hk2⟩, hb⟩, hm⟩ := h'
    rw [Memory.write]
    split
    · next hlt =>
      split
      · exact h
      · next hv =>
        simp only [Memory.wfFrom, Bool.and_eq_true, decide_eq_true_eq]
        exact ⟨⟨⟨hl, ha⟩, by simpa using hv⟩, ⟨⟨⟨by omega, hk2⟩, hb⟩, hm⟩⟩
    · split
      · next hk' =>
        subst hk'
        split
        · next hv =>
          revert hm
          cases m with
          | nil => intro; rfl
          | cons c m =>
            intro hm
            simp only [Memory.wfFrom, Bool.and_eq_true, decide_eq_true_eq] at hm ⊢
            exact ⟨⟨⟨by omega, hm.1.1.2⟩, hm.1.2⟩, hm.2⟩
        · next hv =>
          simp only [Memory.wfFrom, Bool.and_eq_true, decide_eq_true_eq]
          exact ⟨⟨⟨hl, ha⟩, by simpa using hv⟩, hm⟩
      · simp only [Memory.wfFrom, Bool.and_eq_true, decide_eq_true_eq]
        exact ⟨⟨⟨hk, hk2⟩, hb⟩, Memory.write_wfFrom hm (by omega) ha⟩

/-- A write keeps the canonical form. -/
theorem Memory.write_wf {m : Memory} {a : Nat} {v : Byte} (h : m.wf = true) (ha : a < 65536) :
    (m.write a v).wf = true :=
  Memory.write_wfFrom h (Nat.zero_le a) ha

/-- A write at a 16-bit address keeps the canonical form. -/
theorem Memory.put_wf {m : Memory} {a : Addr} {v : Byte} (h : m.wf = true) : (m.put a v).wf = true :=
  Memory.write_wf h a.isLt

/-- R84: reading where a byte was written. -/
theorem Memory.at_put_eq {m : Memory} {a : Addr} {v : Byte} (h : m.wf = true) : (m.put a v).at a = v :=
  Memory.read_write_eq h

/-- R84: reading where no byte was written. -/
theorem Memory.at_put_ne {m : Memory} {a b : Addr} {v : Byte} (h : b ≠ a) : (m.put a v).at b = m.at b :=
  Memory.read_write_ne fun e => h (BitVec.eq_of_toNat_eq e)

/-- R70: canonical memories that read alike everywhere are equal. -/
theorem Memory.ext_from : ∀ {m n : Memory} {lo : Nat}, Memory.wfFrom lo m = true → Memory.wfFrom lo n = true →
    (∀ a, m.read a = n.read a) → m = n
  | [], [], _, _, _, _ => rfl
  | [], (k, b) :: n, lo, _, hn, h => by
    simp only [Memory.wfFrom, Bool.and_eq_true] at hn
    have := h k
    simp only [Memory.read, if_true] at this
    simp [← this] at hn
  | (k, b) :: m, [], lo, hm, _, h => by
    simp only [Memory.wfFrom, Bool.and_eq_true] at hm
    have := h k
    simp only [Memory.read, if_true] at this
    simp [this] at hm
  | (k, b) :: m, (j, c) :: n, lo, hm, hn, h => by
    have hm0 := hm
    have hn0 := hn
    simp only [Memory.wfFrom, Bool.and_eq_true, decide_eq_true_eq, bne_iff_ne, ne_eq] at hm hn
    have hkj : k = j := by
      rcases Nat.lt_trichotomy k j with hlt | heq | hgt
      · have e := h k
        rw [Memory.read_below (m := (j, c) :: n) (lo := j) (by simp [Memory.wfFrom, hn]) hlt] at e
        simp only [Memory.read, if_true] at e
        exact absurd e hm.1.2
      · exact heq
      · have e := h j
        rw [Memory.read_below (m := (k, b) :: m) (lo := k) (by simp [Memory.wfFrom, hm]) hgt] at e
        simp only [Memory.read, if_true] at e
        exact absurd e.symm hn.1.2
    subst hkj
    have hbc : b = c := by simpa [Memory.read] using h k
    subst hbc
    have : m = n := Memory.ext_from hm.2 hn.2 fun a => by
      rcases Nat.lt_or_ge a (k + 1) with ha | ha
      · rw [Memory.read_below hm.2 ha, Memory.read_below hn.2 ha]
      · have e := h a
        have hne : a ≠ k := by omega
        simpa [Memory.read, hne] using e
    rw [this]

end Sys2Proof.Machine
end

