-- ==== Sys2Proof/Laws/State.lean ====
section
/-! SUPPORT. One lemma per field for every named update of the state, each true by `rfl`, so that no proof unfolds a
record update. -/

namespace Sys2Proof.Machine

@[simp] theorem busRead_pc (a : Addr) (s : State) : (busRead a s).pc = s.pc := rfl
@[simp] theorem busRead_sp (a : Addr) (s : State) : (busRead a s).sp = s.sp := rfl
@[simp] theorem busRead_a (a : Addr) (s : State) : (busRead a s).a = s.a := rfl
@[simp] theorem busRead_x (a : Addr) (s : State) : (busRead a s).x = s.x := rfl
@[simp] theorem busRead_y (a : Addr) (s : State) : (busRead a s).y = s.y := rfl
@[simp] theorem busRead_p (a : Addr) (s : State) : (busRead a s).p = s.p := rfl
@[simp] theorem busRead_v (a : Addr) (s : State) : (busRead a s).v = s.v := rfl
@[simp] theorem busRead_v2 (a : Addr) (s : State) : (busRead a s).v2 = s.v2 := rfl
@[simp] theorem busRead_w (a : Addr) (s : State) : (busRead a s).w = s.w := rfl
@[simp] theorem busRead_wc (a : Addr) (s : State) : (busRead a s).wc = s.wc := rfl
@[simp] theorem busRead_bt (a : Addr) (s : State) : (busRead a s).bt = s.bt := rfl
@[simp] theorem busRead_opcode (a : Addr) (s : State) : (busRead a s).opcode = s.opcode := rfl
@[simp] theorem busRead_seq (a : Addr) (s : State) : (busRead a s).seq = s.seq := rfl
@[simp] theorem busRead_cursor (a : Addr) (s : State) : (busRead a s).cursor = s.cursor := rfl
@[simp] theorem busRead_yield (a : Addr) (s : State) : (busRead a s).yield = true := rfl
@[simp] theorem busRead_fault (a : Addr) (s : State) : (busRead a s).fault = s.fault := rfl
@[simp] theorem busRead_faultOpcode (a : Addr) (s : State) : (busRead a s).faultOpcode = s.faultOpcode := rfl
@[simp] theorem busRead_bus (a : Addr) (s : State) :
    (busRead a s).bus = { s.bus with address := a, isWrite := false } := rfl
@[simp] theorem busRead_mem (a : Addr) (s : State) : (busRead a s).mem = s.mem := rfl
@[simp] theorem busRead_trace (a : Addr) (s : State) : (busRead a s).trace = s.trace := rfl
@[simp] theorem busRead_decimal (a : Addr) (s : State) : (busRead a s).decimal = s.decimal := rfl
@[simp] theorem busRead_draws (a : Addr) (s : State) : (busRead a s).draws = s.draws := rfl

@[simp] theorem busWrite_pc (a : Addr) (b : Byte) (s : State) : (busWrite a b s).pc = s.pc := rfl
@[simp] theorem busWrite_sp (a : Addr) (b : Byte) (s : State) : (busWrite a b s).sp = s.sp := rfl
@[simp] theorem busWrite_a (a : Addr) (b : Byte) (s : State) : (busWrite a b s).a = s.a := rfl
@[simp] theorem busWrite_x (a : Addr) (b : Byte) (s : State) : (busWrite a b s).x = s.x := rfl
@[simp] theorem busWrite_y (a : Addr) (b : Byte) (s : State) : (busWrite a b s).y = s.y := rfl
@[simp] theorem busWrite_p (a : Addr) (b : Byte) (s : State) : (busWrite a b s).p = s.p := rfl
@[simp] theorem busWrite_v (a : Addr) (b : Byte) (s : State) : (busWrite a b s).v = s.v := rfl
@[simp] theorem busWrite_v2 (a : Addr) (b : Byte) (s : State) : (busWrite a b s).v2 = s.v2 := rfl
@[simp] theorem busWrite_w (a : Addr) (b : Byte) (s : State) : (busWrite a b s).w = s.w := rfl
@[simp] theorem busWrite_wc (a : Addr) (b : Byte) (s : State) : (busWrite a b s).wc = s.wc := rfl
@[simp] theorem busWrite_bt (a : Addr) (b : Byte) (s : State) : (busWrite a b s).bt = s.bt := rfl
@[simp] theorem busWrite_opcode (a : Addr) (b : Byte) (s : State) : (busWrite a b s).opcode = s.opcode := rfl
@[simp] theorem busWrite_seq (a : Addr) (b : Byte) (s : State) : (busWrite a b s).seq = s.seq := rfl
@[simp] theorem busWrite_cursor (a : Addr) (b : Byte) (s : State) : (busWrite a b s).cursor = s.cursor := rfl
@[simp] theorem busWrite_yield (a : Addr) (b : Byte) (s : State) : (busWrite a b s).yield = true := rfl
@[simp] theorem busWrite_fault (a : Addr) (b : Byte) (s : State) : (busWrite a b s).fault = s.fault := rfl
@[simp] theorem busWrite_faultOpcode (a : Addr) (b : Byte) (s : State) :
    (busWrite a b s).faultOpcode = s.faultOpcode := rfl
@[simp] theorem busWrite_bus (a : Addr) (b : Byte) (s : State) :
    (busWrite a b s).bus = { address := a, data := b, isWrite := true } := rfl
@[simp] theorem busWrite_mem (a : Addr) (b : Byte) (s : State) : (busWrite a b s).mem = s.mem := rfl
@[simp] theorem busWrite_trace (a : Addr) (b : Byte) (s : State) : (busWrite a b s).trace = s.trace := rfl
@[simp] theorem busWrite_decimal (a : Addr) (b : Byte) (s : State) : (busWrite a b s).decimal = s.decimal := rfl
@[simp] theorem busWrite_draws (a : Addr) (b : Byte) (s : State) : (busWrite a b s).draws = s.draws := rfl

@[simp] theorem clearYield_pc (s : State) : (clearYield s).pc = s.pc := rfl
@[simp] theorem clearYield_sp (s : State) : (clearYield s).sp = s.sp := rfl
@[simp] theorem clearYield_a (s : State) : (clearYield s).a = s.a := rfl
@[simp] theorem clearYield_x (s : State) : (clearYield s).x = s.x := rfl
@[simp] theorem clearYield_y (s : State) : (clearYield s).y = s.y := rfl
@[simp] theorem clearYield_p (s : State) : (clearYield s).p = s.p := rfl
@[simp] theorem clearYield_v (s : State) : (clearYield s).v = s.v := rfl
@[simp] theorem clearYield_v2 (s : State) : (clearYield s).v2 = s.v2 := rfl
@[simp] theorem clearYield_w (s : State) : (clearYield s).w = s.w := rfl
@[simp] theorem clearYield_wc (s : State) : (clearYield s).wc = s.wc := rfl
@[simp] theorem clearYield_bt (s : State) : (clearYield s).bt = s.bt := rfl
@[simp] theorem clearYield_opcode (s : State) : (clearYield s).opcode = s.opcode := rfl
@[simp] theorem clearYield_seq (s : State) : (clearYield s).seq = s.seq := rfl
@[simp] theorem clearYield_cursor (s : State) : (clearYield s).cursor = s.cursor := rfl
@[simp] theorem clearYield_yield (s : State) : (clearYield s).yield = false := rfl
@[simp] theorem clearYield_fault (s : State) : (clearYield s).fault = s.fault := rfl
@[simp] theorem clearYield_faultOpcode (s : State) : (clearYield s).faultOpcode = s.faultOpcode := rfl
@[simp] theorem clearYield_bus (s : State) : (clearYield s).bus = s.bus := rfl
@[simp] theorem clearYield_mem (s : State) : (clearYield s).mem = s.mem := rfl
@[simp] theorem clearYield_trace (s : State) : (clearYield s).trace = s.trace := rfl
@[simp] theorem clearYield_decimal (s : State) : (clearYield s).decimal = s.decimal := rfl
@[simp] theorem clearYield_draws (s : State) : (clearYield s).draws = s.draws := rfl

@[simp] theorem queueFetch_pc (s : State) : (queueFetch s).pc = s.pc := rfl
@[simp] theorem queueFetch_sp (s : State) : (queueFetch s).sp = s.sp := rfl
@[simp] theorem queueFetch_a (s : State) : (queueFetch s).a = s.a := rfl
@[simp] theorem queueFetch_x (s : State) : (queueFetch s).x = s.x := rfl
@[simp] theorem queueFetch_y (s : State) : (queueFetch s).y = s.y := rfl
@[simp] theorem queueFetch_p (s : State) : (queueFetch s).p = s.p := rfl
@[simp] theorem queueFetch_v (s : State) : (queueFetch s).v = s.v := rfl
@[simp] theorem queueFetch_v2 (s : State) : (queueFetch s).v2 = s.v2 := rfl
@[simp] theorem queueFetch_w (s : State) : (queueFetch s).w = s.w := rfl
@[simp] theorem queueFetch_wc (s : State) : (queueFetch s).wc = s.wc := rfl
@[simp] theorem queueFetch_bt (s : State) : (queueFetch s).bt = s.bt := rfl
@[simp] theorem queueFetch_opcode (s : State) : (queueFetch s).opcode = s.opcode := rfl
@[simp] theorem queueFetch_seq (s : State) : (queueFetch s).seq = s.seq := rfl
@[simp] theorem queueFetch_cursor (s : State) : (queueFetch s).cursor = s.cursor := rfl
@[simp] theorem queueFetch_yield (s : State) : (queueFetch s).yield = false := rfl
@[simp] theorem queueFetch_fault (s : State) : (queueFetch s).fault = s.fault := rfl
@[simp] theorem queueFetch_faultOpcode (s : State) : (queueFetch s).faultOpcode = s.faultOpcode := rfl
@[simp] theorem queueFetch_bus (s : State) :
    (queueFetch s).bus = { s.bus with address := s.pc, isWrite := false } := rfl
@[simp] theorem queueFetch_mem (s : State) : (queueFetch s).mem = s.mem := rfl
@[simp] theorem queueFetch_trace (s : State) : (queueFetch s).trace = s.trace := rfl
@[simp] theorem queueFetch_decimal (s : State) : (queueFetch s).decimal = s.decimal := rfl
@[simp] theorem queueFetch_draws (s : State) : (queueFetch s).draws = s.draws := rfl

@[simp] theorem beginInstr_pc (op : Byte) (ops : List MicroOp) (s : State) :
    (beginInstr op ops s).pc = s.pc + 1#16 := rfl
@[simp] theorem beginInstr_sp (op : Byte) (ops : List MicroOp) (s : State) : (beginInstr op ops s).sp = s.sp := rfl
@[simp] theorem beginInstr_a (op : Byte) (ops : List MicroOp) (s : State) : (beginInstr op ops s).a = s.a := rfl
@[simp] theorem beginInstr_x (op : Byte) (ops : List MicroOp) (s : State) : (beginInstr op ops s).x = s.x := rfl
@[simp] theorem beginInstr_y (op : Byte) (ops : List MicroOp) (s : State) : (beginInstr op ops s).y = s.y := rfl
@[simp] theorem beginInstr_p (op : Byte) (ops : List MicroOp) (s : State) : (beginInstr op ops s).p = s.p := rfl
@[simp] theorem beginInstr_v (op : Byte) (ops : List MicroOp) (s : State) : (beginInstr op ops s).v = s.v := rfl
@[simp] theorem beginInstr_v2 (op : Byte) (ops : List MicroOp) (s : State) : (beginInstr op ops s).v2 = s.v2 := rfl
@[simp] theorem beginInstr_w (op : Byte) (ops : List MicroOp) (s : State) : (beginInstr op ops s).w = s.w := rfl
@[simp] theorem beginInstr_wc (op : Byte) (ops : List MicroOp) (s : State) : (beginInstr op ops s).wc = false := rfl
@[simp] theorem beginInstr_bt (op : Byte) (ops : List MicroOp) (s : State) : (beginInstr op ops s).bt = s.bt := rfl
@[simp] theorem beginInstr_opcode (op : Byte) (ops : List MicroOp) (s : State) :
    (beginInstr op ops s).opcode = op := rfl
@[simp] theorem beginInstr_seq (op : Byte) (ops : List MicroOp) (s : State) : (beginInstr op ops s).seq = ops := rfl
@[simp] theorem beginInstr_cursor (op : Byte) (ops : List MicroOp) (s : State) :
    (beginInstr op ops s).cursor = 0 := rfl
@[simp] theorem beginInstr_yield (op : Byte) (ops : List MicroOp) (s : State) :
    (beginInstr op ops s).yield = s.yield := rfl
@[simp] theorem beginInstr_fault (op : Byte) (ops : List MicroOp) (s : State) :
    (beginInstr op ops s).fault = s.fault := rfl
@[simp] theorem beginInstr_faultOpcode (op : Byte) (ops : List MicroOp) (s : State) :
    (beginInstr op ops s).faultOpcode = s.faultOpcode := rfl
@[simp] theorem beginInstr_bus (op : Byte) (ops : List MicroOp) (s : State) : (beginInstr op ops s).bus = s.bus := rfl
@[simp] theorem beginInstr_mem (op : Byte) (ops : List MicroOp) (s : State) : (beginInstr op ops s).mem = s.mem := rfl
@[simp] theorem beginInstr_trace (op : Byte) (ops : List MicroOp) (s : State) :
    (beginInstr op ops s).trace = s.trace := rfl
@[simp] theorem beginInstr_decimal (op : Byte) (ops : List MicroOp) (s : State) :
    (beginInstr op ops s).decimal = s.decimal := rfl
@[simp] theorem beginInstr_draws (op : Byte) (ops : List MicroOp) (s : State) :
    (beginInstr op ops s).draws = s.draws := rfl

@[simp] theorem raiseUnknownOpcode_pc (op : Byte) (s : State) : (raiseUnknownOpcode op s).pc = s.pc := rfl
@[simp] theorem raiseUnknownOpcode_sp (op : Byte) (s : State) : (raiseUnknownOpcode op s).sp = s.sp := rfl
@[simp] theorem raiseUnknownOpcode_a (op : Byte) (s : State) : (raiseUnknownOpcode op s).a = s.a := rfl
@[simp] theorem raiseUnknownOpcode_x (op : Byte) (s : State) : (raiseUnknownOpcode op s).x = s.x := rfl
@[simp] theorem raiseUnknownOpcode_y (op : Byte) (s : State) : (raiseUnknownOpcode op s).y = s.y := rfl
@[simp] theorem raiseUnknownOpcode_p (op : Byte) (s : State) : (raiseUnknownOpcode op s).p = s.p := rfl
@[simp] theorem raiseUnknownOpcode_v (op : Byte) (s : State) : (raiseUnknownOpcode op s).v = s.v := rfl
@[simp] theorem raiseUnknownOpcode_v2 (op : Byte) (s : State) : (raiseUnknownOpcode op s).v2 = s.v2 := rfl
@[simp] theorem raiseUnknownOpcode_w (op : Byte) (s : State) : (raiseUnknownOpcode op s).w = s.w := rfl
@[simp] theorem raiseUnknownOpcode_wc (op : Byte) (s : State) : (raiseUnknownOpcode op s).wc = s.wc := rfl
@[simp] theorem raiseUnknownOpcode_bt (op : Byte) (s : State) : (raiseUnknownOpcode op s).bt = s.bt := rfl
@[simp] theorem raiseUnknownOpcode_opcode (op : Byte) (s : State) : (raiseUnknownOpcode op s).opcode = s.opcode := rfl
@[simp] theorem raiseUnknownOpcode_seq (op : Byte) (s : State) : (raiseUnknownOpcode op s).seq = s.seq := rfl
@[simp] theorem raiseUnknownOpcode_cursor (op : Byte) (s : State) : (raiseUnknownOpcode op s).cursor = s.cursor := rfl
@[simp] theorem raiseUnknownOpcode_yield (op : Byte) (s : State) : (raiseUnknownOpcode op s).yield = s.yield := rfl
@[simp] theorem raiseUnknownOpcode_fault (op : Byte) (s : State) : (raiseUnknownOpcode op s).fault = true := rfl
@[simp] theorem raiseUnknownOpcode_faultOpcode (op : Byte) (s : State) :
    (raiseUnknownOpcode op s).faultOpcode = op := rfl
@[simp] theorem raiseUnknownOpcode_bus (op : Byte) (s : State) : (raiseUnknownOpcode op s).bus = s.bus := rfl
@[simp] theorem raiseUnknownOpcode_mem (op : Byte) (s : State) : (raiseUnknownOpcode op s).mem = s.mem := rfl
@[simp] theorem raiseUnknownOpcode_trace (op : Byte) (s : State) : (raiseUnknownOpcode op s).trace = s.trace := rfl
@[simp] theorem raiseUnknownOpcode_decimal (op : Byte) (s : State) :
    (raiseUnknownOpcode op s).decimal = s.decimal := rfl
@[simp] theorem raiseUnknownOpcode_draws (op : Byte) (s : State) : (raiseUnknownOpcode op s).draws = s.draws := rfl

@[simp] theorem setAcc_pc (s : State) (r : Arith) : (s.setAcc r).pc = s.pc := rfl
@[simp] theorem setAcc_sp (s : State) (r : Arith) : (s.setAcc r).sp = s.sp := rfl
@[simp] theorem setAcc_a (s : State) (r : Arith) : (s.setAcc r).a = r.value := rfl
@[simp] theorem setAcc_x (s : State) (r : Arith) : (s.setAcc r).x = s.x := rfl
@[simp] theorem setAcc_y (s : State) (r : Arith) : (s.setAcc r).y = s.y := rfl
@[simp] theorem setAcc_p (s : State) (r : Arith) : (s.setAcc r).p = setArith s.p r := rfl
@[simp] theorem setAcc_v (s : State) (r : Arith) : (s.setAcc r).v = s.v := rfl
@[simp] theorem setAcc_v2 (s : State) (r : Arith) : (s.setAcc r).v2 = s.v2 := rfl
@[simp] theorem setAcc_w (s : State) (r : Arith) : (s.setAcc r).w = s.w := rfl
@[simp] theorem setAcc_wc (s : State) (r : Arith) : (s.setAcc r).wc = s.wc := rfl
@[simp] theorem setAcc_bt (s : State) (r : Arith) : (s.setAcc r).bt = s.bt := rfl
@[simp] theorem setAcc_opcode (s : State) (r : Arith) : (s.setAcc r).opcode = s.opcode := rfl
@[simp] theorem setAcc_seq (s : State) (r : Arith) : (s.setAcc r).seq = s.seq := rfl
@[simp] theorem setAcc_cursor (s : State) (r : Arith) : (s.setAcc r).cursor = s.cursor := rfl
@[simp] theorem setAcc_yield (s : State) (r : Arith) : (s.setAcc r).yield = s.yield := rfl
@[simp] theorem setAcc_fault (s : State) (r : Arith) : (s.setAcc r).fault = s.fault := rfl
@[simp] theorem setAcc_faultOpcode (s : State) (r : Arith) : (s.setAcc r).faultOpcode = s.faultOpcode := rfl
@[simp] theorem setAcc_bus (s : State) (r : Arith) : (s.setAcc r).bus = s.bus := rfl
@[simp] theorem setAcc_mem (s : State) (r : Arith) : (s.setAcc r).mem = s.mem := rfl
@[simp] theorem setAcc_trace (s : State) (r : Arith) : (s.setAcc r).trace = s.trace := rfl
@[simp] theorem setAcc_decimal (s : State) (r : Arith) : (s.setAcc r).decimal = s.decimal := rfl
@[simp] theorem setAcc_draws (s : State) (r : Arith) : (s.setAcc r).draws = s.draws := rfl

@[simp] theorem fetchReady_pc (s : State) : (fetchReady s).pc = s.pc := rfl
@[simp] theorem fetchReady_sp (s : State) : (fetchReady s).sp = s.sp := rfl
@[simp] theorem fetchReady_a (s : State) : (fetchReady s).a = s.a := rfl
@[simp] theorem fetchReady_x (s : State) : (fetchReady s).x = s.x := rfl
@[simp] theorem fetchReady_y (s : State) : (fetchReady s).y = s.y := rfl
@[simp] theorem fetchReady_p (s : State) : (fetchReady s).p = s.p := rfl
@[simp] theorem fetchReady_v (s : State) : (fetchReady s).v = s.v := rfl
@[simp] theorem fetchReady_v2 (s : State) : (fetchReady s).v2 = s.v2 := rfl
@[simp] theorem fetchReady_w (s : State) : (fetchReady s).w = s.w := rfl
@[simp] theorem fetchReady_wc (s : State) : (fetchReady s).wc = s.wc := rfl
@[simp] theorem fetchReady_bt (s : State) : (fetchReady s).bt = none := rfl
@[simp] theorem fetchReady_opcode (s : State) : (fetchReady s).opcode = s.opcode := rfl
@[simp] theorem fetchReady_seq (s : State) : (fetchReady s).seq = s.seq := rfl
@[simp] theorem fetchReady_cursor (s : State) : (fetchReady s).cursor = s.seq.length := rfl
@[simp] theorem fetchReady_yield (s : State) : (fetchReady s).yield = false := rfl
@[simp] theorem fetchReady_fault (s : State) : (fetchReady s).fault = false := rfl
@[simp] theorem fetchReady_faultOpcode (s : State) : (fetchReady s).faultOpcode = s.faultOpcode := rfl
@[simp] theorem fetchReady_bus (s : State) :
    (fetchReady s).bus = { s.bus with address := s.pc, isWrite := false } := rfl
@[simp] theorem fetchReady_mem (s : State) : (fetchReady s).mem = s.mem := rfl
@[simp] theorem fetchReady_trace (s : State) : (fetchReady s).trace = s.trace := rfl
@[simp] theorem fetchReady_decimal (s : State) : (fetchReady s).decimal = s.decimal := rfl
@[simp] theorem fetchReady_draws (s : State) : (fetchReady s).draws = s.draws := rfl

/-! ### The service of a transaction (R73) -/

@[simp] theorem service_pc (s : State) : (service s).pc = s.pc := by
  unfold service; split <;> rfl

@[simp] theorem service_sp (s : State) : (service s).sp = s.sp := by
  unfold service; split <;> rfl

@[simp] theorem service_a (s : State) : (service s).a = s.a := by
  unfold service; split <;> rfl

@[simp] theorem service_x (s : State) : (service s).x = s.x := by
  unfold service; split <;> rfl

@[simp] theorem service_y (s : State) : (service s).y = s.y := by
  unfold service; split <;> rfl

@[simp] theorem service_p (s : State) : (service s).p = s.p := by
  unfold service; split <;> rfl

@[simp] theorem service_v (s : State) : (service s).v = s.v := by
  unfold service; split <;> rfl

@[simp] theorem service_v2 (s : State) : (service s).v2 = s.v2 := by
  unfold service; split <;> rfl

@[simp] theorem service_w (s : State) : (service s).w = s.w := by
  unfold service; split <;> rfl

@[simp] theorem service_wc (s : State) : (service s).wc = s.wc := by
  unfold service; split <;> rfl

@[simp] theorem service_bt (s : State) : (service s).bt = s.bt := by
  unfold service; split <;> rfl

@[simp] theorem service_opcode (s : State) : (service s).opcode = s.opcode := by
  unfold service; split <;> rfl

@[simp] theorem service_seq (s : State) : (service s).seq = s.seq := by
  unfold service; split <;> rfl

@[simp] theorem service_cursor (s : State) : (service s).cursor = s.cursor := by
  unfold service; split <;> rfl

@[simp] theorem service_yield (s : State) : (service s).yield = s.yield := by
  unfold service; split <;> rfl

@[simp] theorem service_fault (s : State) : (service s).fault = s.fault := by
  unfold service; split <;> rfl

@[simp] theorem service_faultOpcode (s : State) : (service s).faultOpcode = s.faultOpcode := by
  unfold service; split <;> rfl

@[simp] theorem service_decimal (s : State) : (service s).decimal = s.decimal := by
  unfold service; split <;> rfl

@[simp] theorem service_draws (s : State) : (service s).draws = s.draws := by
  unfold service; split <;> rfl

/-- R73: the caller supplies the read data. -/
theorem service_of_read {s : State} (h : s.bus.isWrite = false) :
    service s = { s with bus := { s.bus with data := s.mem.at s.bus.address }
                         trace := { s.bus with data := s.mem.at s.bus.address } :: s.trace } := by
  simp [service, h]

/-- R73: the caller commits a write. -/
theorem service_of_write {s : State} (h : s.bus.isWrite = true) :
    service s = { s with mem := s.mem.put s.bus.address s.bus.data, trace := s.bus :: s.trace } := by
  simp [service, h]

@[simp] theorem service_bus_address (s : State) : (service s).bus.address = s.bus.address := by
  unfold service; split <;> rfl

@[simp] theorem service_bus_isWrite (s : State) : (service s).bus.isWrite = s.bus.isWrite := by
  unfold service; split <;> rfl

/-- R75, R250: one serviced transaction a call. -/
@[simp] theorem service_trace_length (s : State) : (service s).trace.length = s.trace.length + 1 := by
  unfold service; split <;> rfl

end Sys2Proof.Machine
end

