-- ==== Sys2Proof/Laws/Run.lean ====
section
/-! SUPPORT. What a run of micro-ops does: what every run keeps, the frame of a run from the frames of its micro-ops,
and that a whole instruction is its calls (42_decode_scheduler.md R240 to R247). -/

namespace Sys2Proof.Machine

@[simp] theorem tick_cursor (m : MicroOp) (s : State) : (tick m s).cursor = (runMicro m s).cursor + 1 := rfl

@[simp] theorem tick_yield (m : MicroOp) (s : State) : (tick m s).yield = (runMicro m s).yield := rfl

@[simp] theorem runToEnd_nil (s : State) : runToEnd [] s = queueFetch s := rfl

@[simp] theorem runCall_nil (s : State) : runCall [] s = queueFetch s := rfl

/-- R243: a micro-op that does not yield is followed by the next one in the same call. -/
theorem runToEnd_quiet {m : MicroOp} {ms : List MicroOp} {s : State} (h : (runMicro m s).yield = false) :
    runToEnd (m :: ms) s = runToEnd ms (tick m s) := by
  simp [runToEnd, h]

/-- R243, R73: a micro-op that yields ends the call, and the next call runs after the caller's service. -/
theorem runToEnd_yield {m : MicroOp} {ms : List MicroOp} {s : State} (h : (runMicro m s).yield = true) :
    runToEnd (m :: ms) s = runToEnd ms (service (clearYield (tick m s))) := by
  simp [runToEnd, h]

/-- The micro-ops of the first part of a sequence, with the caller's services between their calls. -/
def runPart : List MicroOp → State → State
  | [], s => s
  | m :: ms, s =>
    if (tick m s).yield then runPart ms (service (clearYield (tick m s))) else runPart ms (tick m s)

/-- A sequence runs as its first part and then the rest. -/
theorem runToEnd_append : ∀ (ops rest : List MicroOp) (s : State),
    runToEnd (ops ++ rest) s = runToEnd rest (runPart ops s)
  | [], _, _ => rfl
  | m :: ms, rest, s => by
    rw [List.cons_append, runToEnd, runPart]
    split <;> exact runToEnd_append ms rest _

/-! ### A run's frame -/

/-- What a run keeps, from what each of its micro-ops keeps: `f` is any part of the state that the scheduler and the
caller's service leave alone. -/
theorem runToEnd_frame {α : Type} (f : State → α) (ok : MicroOp → Bool)
    (hrun : ∀ m s, ok m = true → f (tick m s) = f s) (hserv : ∀ s, f (service s) = f s)
    (hclear : ∀ s, f (clearYield s) = f s) (hqueue : ∀ s, f (queueFetch s) = f s) :
    ∀ (ops : List MicroOp) (s : State), ops.all ok = true → f (runToEnd ops s) = f s
  | [], s, _ => hqueue s
  | m :: ms, s, h => by
    simp only [List.all_cons, Bool.and_eq_true] at h
    have ih := runToEnd_frame f ok hrun hserv hclear hqueue ms
    cases hy : (runMicro m s).yield
    · rw [runToEnd_quiet hy, ih _ h.2, hrun m s h.1]
    · rw [runToEnd_yield hy, ih _ h.2, hserv, hclear, hrun m s h.1]

/-! ### The frame of each micro-op -/

/-- R140: the micro-ops that write A. -/
def writesA : MicroOp → Bool
  | .vTo .a => true
  | .oraV => true
  | .andV => true
  | .eorV => true
  | .adcV => true
  | .sbcV => true
  | _ => false

/-- R140: the micro-ops that write X. -/
def writesX : MicroOp → Bool
  | .vTo .x => true
  | _ => false

/-- R140: the micro-ops that write Y. -/
def writesY : MicroOp → Bool
  | .vTo .y => true
  | _ => false

/-- R140: the micro-ops that write S. -/
def writesS : MicroOp → Bool
  | .vTo .s => true
  | .incS => true
  | .decS => true
  | _ => false

/-- R140, R42: the micro-ops that write a flag of P. -/
def writesFlag (f : Flag) : MicroOp → Bool
  | .pFromV => true
  | .nzV => f == .n || f == .z
  | .setF g _ => f == g
  | .aslV => f == .n || f == .z || f == .c
  | .lsrV => f == .n || f == .z || f == .c
  | .rolV => f == .n || f == .z || f == .c
  | .rorV => f == .n || f == .z || f == .c
  | .incV => f == .n || f == .z
  | .decV => f == .n || f == .z
  | .oraV => f == .n || f == .z
  | .andV => f == .n || f == .z
  | .eorV => f == .n || f == .z
  | .adcV => f == .n || f == .v || f == .z || f == .c
  | .sbcV => f == .n || f == .v || f == .z || f == .c
  | .cmpV _ => f == .n || f == .z || f == .c
  | .bitV => f == .n || f == .v || f == .z
  | _ => false

/-- R167: the micro-op that writes P whole. -/
def writesP : MicroOp → Bool
  | .pFromV => true
  | _ => false

/-- R145: the micro-op that writes memory. -/
def writesMem : MicroOp → Bool
  | .wrW => true
  | _ => false

/-- R175 to R177: the micro-ops that write `bt`. -/
def writesBt : MicroOp → Bool
  | .brTest _ _ => true
  | .brFix => true
  | .brCommit => true
  | _ => false

/-- R326: the micro-ops that may draw a free value. -/
def mayDraw : MicroOp → Bool
  | .adcV => true
  | .sbcV => true
  | _ => false

/-- Every field that a micro-op can change is one of those its rule names; here, what none changes. -/
theorem tick_keeps (m : MicroOp) (s : State) :
    (tick m s).opcode = s.opcode ∧ (tick m s).seq = s.seq ∧ (tick m s).cursor = s.cursor + 1 ∧
      (tick m s).fault = s.fault ∧ (tick m s).faultOpcode = s.faultOpcode ∧ (tick m s).mem = s.mem ∧
      (tick m s).trace = s.trace ∧ (tick m s).decimal = s.decimal := by
  cases m <;>
    simp [tick, runMicro, adcStep, sbcStep, drawDecimal, shiftStep, logicStep, brTestStep, brFixStep, brCommitStep,
      State.setReg] <;>
    (repeat' split) <;> simp [State.setAcc]

@[simp] theorem tick_opcode (m : MicroOp) (s : State) : (tick m s).opcode = s.opcode := (tick_keeps m s).1

@[simp] theorem tick_seq (m : MicroOp) (s : State) : (tick m s).seq = s.seq := (tick_keeps m s).2.1

theorem tick_advances (m : MicroOp) (s : State) : (tick m s).cursor = s.cursor + 1 := (tick_keeps m s).2.2.1

@[simp] theorem tick_fault (m : MicroOp) (s : State) : (tick m s).fault = s.fault := (tick_keeps m s).2.2.2.1

@[simp] theorem tick_faultOpcode (m : MicroOp) (s : State) : (tick m s).faultOpcode = s.faultOpcode :=
  (tick_keeps m s).2.2.2.2.1

/-- R71: no micro-op reads or writes memory. -/
@[simp] theorem tick_mem (m : MicroOp) (s : State) : (tick m s).mem = s.mem := (tick_keeps m s).2.2.2.2.2.1

@[simp] theorem tick_trace (m : MicroOp) (s : State) : (tick m s).trace = s.trace := (tick_keeps m s).2.2.2.2.2.2.1

@[simp] theorem tick_decimal (m : MicroOp) (s : State) : (tick m s).decimal = s.decimal :=
  (tick_keeps m s).2.2.2.2.2.2.2

theorem tick_a (m : MicroOp) (s : State) (h : writesA m = false) : (tick m s).a = s.a := by
  cases m <;>
    simp_all [writesA, tick, runMicro, shiftStep, brTestStep, brFixStep, brCommitStep] <;>
    (repeat' split) <;> simp_all [State.setReg]
  all_goals split <;> simp_all

theorem tick_x (m : MicroOp) (s : State) (h : writesX m = false) : (tick m s).x = s.x := by
  cases m <;>
    simp_all [writesX, tick, runMicro, adcStep, sbcStep, drawDecimal, State.setAcc, shiftStep, logicStep, brTestStep,
      brFixStep, brCommitStep] <;>
    (repeat' split) <;> simp_all [State.setReg]
  all_goals split <;> simp_all

theorem tick_y (m : MicroOp) (s : State) (h : writesY m = false) : (tick m s).y = s.y := by
  cases m <;>
    simp_all [writesY, tick, runMicro, adcStep, sbcStep, drawDecimal, State.setAcc, shiftStep, logicStep, brTestStep,
      brFixStep, brCommitStep] <;>
    (repeat' split) <;> simp_all [State.setReg]
  all_goals split <;> simp_all

theorem tick_sp (m : MicroOp) (s : State) (h : writesS m = false) : (tick m s).sp = s.sp := by
  cases m <;>
    simp_all [writesS, tick, runMicro, adcStep, sbcStep, drawDecimal, State.setAcc, shiftStep, logicStep, brTestStep,
      brFixStep, brCommitStep] <;>
    (repeat' split) <;> simp_all [State.setReg]
  all_goals split <;> simp_all

theorem tick_bt (m : MicroOp) (s : State) (h : writesBt m = false) : (tick m s).bt = s.bt := by
  cases m <;>
    simp_all [writesBt, tick, runMicro, adcStep, sbcStep, drawDecimal, State.setAcc, shiftStep, logicStep,
      State.setReg] <;>
    (repeat' split) <;> simp_all

theorem tick_draws (m : MicroOp) (s : State) (h : mayDraw m = false) : (tick m s).draws = s.draws := by
  cases m <;>
    simp_all [mayDraw, tick, runMicro, shiftStep, logicStep, brTestStep, brFixStep, brCommitStep, State.setReg] <;>
    (repeat' split) <;> simp_all

/-- R140, R42: a micro-op leaves every flag alone that its rule does not name. -/
theorem tick_flag (m : MicroOp) (s : State) (f : Flag) (h : writesFlag f m = false) :
    getFlag (tick m s).p f = getFlag s.p f := by
  cases m <;> cases f <;>
    simp_all [writesFlag, tick, runMicro, adcStep, sbcStep, drawDecimal, shiftStep, aslByte, lsrByte, rolByte, rorByte,
      incByte, decByte, logicStep, brTestStep, brFixStep, brCommitStep, cmpFlags, bitFlags, State.setReg] <;>
    (repeat' split) <;> simp_all

/-- R39: only a whole-byte write changes bits 5 and 4 of P. -/
theorem tick_reservedBits (m : MicroOp) (s : State) (h : writesP m = false) :
    reservedBits (tick m s).p = reservedBits s.p := by
  cases m <;>
    simp_all [writesP, tick, runMicro, adcStep, sbcStep, drawDecimal, shiftStep, aslByte, lsrByte, rolByte, rorByte,
      incByte, decByte, logicStep, brTestStep, brFixStep, brCommitStep, cmpFlags, bitFlags, State.setReg] <;>
    (repeat' split) <;> simp_all

/-! ### What every run leaves -/

@[simp] theorem runToEnd_seq (ops : List MicroOp) (s : State) : (runToEnd ops s).seq = s.seq :=
  runToEnd_frame State.seq (fun _ => true) (by simp) (by simp) (by simp) (by simp) ops s (by simp)

@[simp] theorem runToEnd_opcode (ops : List MicroOp) (s : State) : (runToEnd ops s).opcode = s.opcode :=
  runToEnd_frame State.opcode (fun _ => true) (by simp) (by simp) (by simp) (by simp) ops s (by simp)

@[simp] theorem runToEnd_fault (ops : List MicroOp) (s : State) : (runToEnd ops s).fault = s.fault :=
  runToEnd_frame State.fault (fun _ => true) (by simp) (by simp) (by simp) (by simp) ops s (by simp)

@[simp] theorem runToEnd_faultOpcode (ops : List MicroOp) (s : State) :
    (runToEnd ops s).faultOpcode = s.faultOpcode :=
  runToEnd_frame State.faultOpcode (fun _ => true) (by simp) (by simp) (by simp) (by simp) ops s (by simp)

@[simp] theorem runToEnd_decimal (ops : List MicroOp) (s : State) : (runToEnd ops s).decimal = s.decimal :=
  runToEnd_frame State.decimal (fun _ => true) (by simp) (by simp) (by simp) (by simp) ops s (by simp)

theorem runToEnd_a {ops : List MicroOp} (s : State) (h : ops.all (fun m => !writesA m) = true) :
    (runToEnd ops s).a = s.a :=
  runToEnd_frame State.a (fun m => !writesA m) (fun m s h => tick_a m s (by simpa using h)) (by simp) (by simp)
    (by simp) ops s h

theorem runToEnd_x {ops : List MicroOp} (s : State) (h : ops.all (fun m => !writesX m) = true) :
    (runToEnd ops s).x = s.x :=
  runToEnd_frame State.x (fun m => !writesX m) (fun m s h => tick_x m s (by simpa using h)) (by simp) (by simp)
    (by simp) ops s h

theorem runToEnd_y {ops : List MicroOp} (s : State) (h : ops.all (fun m => !writesY m) = true) :
    (runToEnd ops s).y = s.y :=
  runToEnd_frame State.y (fun m => !writesY m) (fun m s h => tick_y m s (by simpa using h)) (by simp) (by simp)
    (by simp) ops s h

theorem runToEnd_sp {ops : List MicroOp} (s : State) (h : ops.all (fun m => !writesS m) = true) :
    (runToEnd ops s).sp = s.sp :=
  runToEnd_frame State.sp (fun m => !writesS m) (fun m s h => tick_sp m s (by simpa using h)) (by simp) (by simp)
    (by simp) ops s h

theorem runToEnd_bt {ops : List MicroOp} (s : State) (h : ops.all (fun m => !writesBt m) = true) :
    (runToEnd ops s).bt = s.bt :=
  runToEnd_frame State.bt (fun m => !writesBt m) (fun m s h => tick_bt m s (by simpa using h)) (by simp) (by simp)
    (by simp) ops s h

theorem runToEnd_draws {ops : List MicroOp} (s : State) (h : ops.all (fun m => !mayDraw m) = true) :
    (runToEnd ops s).draws = s.draws :=
  runToEnd_frame State.draws (fun m => !mayDraw m) (fun m s h => tick_draws m s (by simpa using h)) (by simp) (by simp)
    (by simp) ops s h

theorem runToEnd_flag {ops : List MicroOp} (s : State) (f : Flag)
    (h : ops.all (fun m => !writesFlag f m) = true) : getFlag (runToEnd ops s).p f = getFlag s.p f :=
  runToEnd_frame (fun s => getFlag s.p f) (fun m => !writesFlag f m)
    (fun m s h => tick_flag m s f (by simpa using h)) (by simp) (by simp) (by simp) ops s h

theorem runToEnd_reservedBits {ops : List MicroOp} (s : State) (h : ops.all (fun m => !writesP m) = true) :
    reservedBits (runToEnd ops s).p = reservedBits s.p :=
  runToEnd_frame (fun s => reservedBits s.p) (fun m => !writesP m)
    (fun m s h => tick_reservedBits m s (by simpa using h)) (by simp) (by simp) (by simp) ops s h

/-- R243: a run advances the cursor by the micro-ops it runs. -/
@[simp] theorem runToEnd_cursor : ∀ (ops : List MicroOp) (s : State),
    (runToEnd ops s).cursor = s.cursor + ops.length
  | [], _ => rfl
  | m :: ms, s => by
    cases hy : (runMicro m s).yield
    · rw [runToEnd_quiet hy, runToEnd_cursor ms, tick_advances, List.length_cons]
      omega
    · rw [runToEnd_yield hy, runToEnd_cursor ms, service_cursor, clearYield_cursor, tick_advances, List.length_cons]
      omega

/-- R244, R248: a run ends with the fetch of the next opcode pending. -/
theorem runToEnd_fetch : ∀ (ops : List MicroOp) (s : State), (runToEnd ops s).yield = false ∧
    (runToEnd ops s).bus.isWrite = false ∧ (runToEnd ops s).bus.address = (runToEnd ops s).pc
  | [], _ => ⟨rfl, rfl, rfl⟩
  | m :: ms, s => by
    cases hy : (runMicro m s).yield
    · rw [runToEnd_quiet hy]
      exact runToEnd_fetch ms _
    · rw [runToEnd_yield hy]
      exact runToEnd_fetch ms _

/-- R84: every run keeps the canonical form of memory. -/
theorem service_mem_wf {s : State} (h : s.mem.wf = true) : (service s).mem.wf = true := by
  unfold service
  split
  · exact Memory.put_wf h
  · exact h

theorem runToEnd_mem_wf : ∀ (ops : List MicroOp) (s : State), s.mem.wf = true → (runToEnd ops s).mem.wf = true
  | [], _, h => h
  | m :: ms, s, h => by
    cases hy : (runMicro m s).yield
    · rw [runToEnd_quiet hy]
      exact runToEnd_mem_wf ms _ (by simpa using h)
    · rw [runToEnd_yield hy]
      exact runToEnd_mem_wf ms _ (service_mem_wf (by simpa using h))

/-! ### A call, and a step -/

@[simp] theorem runCall_mem : ∀ (ops : List MicroOp) (s : State), (runCall ops s).mem = s.mem
  | [], _ => rfl
  | m :: ms, s => by
    rw [runCall]
    split
    · simp
    · rw [runCall_mem ms, tick_mem]

@[simp] theorem runCall_fault : ∀ (ops : List MicroOp) (s : State), (runCall ops s).fault = s.fault
  | [], _ => rfl
  | m :: ms, s => by
    rw [runCall]
    split
    · simp
    · rw [runCall_fault ms, tick_fault]

@[simp] theorem runCall_seq : ∀ (ops : List MicroOp) (s : State), (runCall ops s).seq = s.seq
  | [], _ => rfl
  | m :: ms, s => by
    rw [runCall]
    split
    · simp
    · rw [runCall_seq ms, tick_seq]

/-- R245: a call ends with the yield flag clear. -/
@[simp] theorem runCall_yield : ∀ (ops : List MicroOp) (s : State), (runCall ops s).yield = false
  | [], _ => rfl
  | m :: ms, s => by
    rw [runCall]
    split
    · rfl
    · exact runCall_yield ms _

/-- R240: a step in the middle of an instruction is the caller's service and one call. -/
theorem step_middle {s : State} (hf : s.fault = false) (hy : s.yield = false) (hc : s.cursor < s.seq.length) :
    step s = .next (callCore (service s)) := by
  have h1 : ¬ s.seq.length < s.cursor := by omega
  have h2 : s.cursor ≠ s.seq.length := by omega
  simp [step, clockCycle, cycle, hf, hy, h1, h2]

/-- R241: a step between instructions is the caller's service and decode. -/
theorem step_between {s : State} (hf : s.fault = false) (hy : s.yield = false) (hc : s.cursor = s.seq.length) :
    step s = .next (decodeCall (service s)) := by
  simp [step, clockCycle, cycle, hf, hy, hc]

end Sys2Proof.Machine
end

