-- ==== Sys2Proof/Laws/Modes.lean ====
section
/-! SUPPORT. One law for each addressing-mode composer: from an instruction boundary it leaves the effective address in
`w`, the operand byte in the bus record, PC past the operand bytes, the reads of R217 to R219 on the trace, and every
architectural register and all of memory as they were (41_addressing_modes.md R200 to R211). -/

namespace Sys2Proof.Machine

/-- What a composer leaves, beside the state `s` at the instruction boundary. -/
structure Composed (m : Mode) (k : Kind) (s u : State) : Prop where
  pc : u.pc = s.pc + 1#16 + BitVec.ofNat 16 m.operandBytes
  sp : u.sp = s.sp
  a : u.a = s.a
  x : u.x = s.x
  y : u.y = s.y
  p : u.p = s.p
  mem : u.mem = s.mem
  bt : u.bt = s.bt
  draws : u.draws = s.draws
  decimal : u.decimal = s.decimal
  fault : u.fault = s.fault
  faultOpcode : u.faultOpcode = s.faultOpcode
  yield : u.yield = false
  isWrite : u.bus.isWrite = false
  trace : u.trace = (modeTrace m k s).reverse ++ s.trace
  w : ∀ ea, effectiveAddr m s = some ea → u.w = ea
  data : k ≠ .write → operandByte m s = some u.bus.data

/-- The state after decode of an instruction whose opcode fetch was pending at `s` (R241). -/
theorem begin_at_boundary {s : State} (h : AtBoundary s) (op : Byte) (seq : List MicroOp) :
    beginInstr op seq (service s) =
      { s with
        opcode := op, seq := seq, cursor := 0, wc := false, pc := s.pc + 1#16
        bus := { address := s.pc, data := s.mem.at s.pc, isWrite := false }
        trace := readEntry s.mem s.pc :: s.trace } := by
  obtain ⟨-, -, -, -, hw, ha⟩ := h
  simp [beginInstr, service_of_read hw, readEntry, ha, hw]

/-- R204: immediate. -/
theorem compose_imm {s : State} (h : AtBoundary s) (op : Byte) (seq : List MicroOp) :
    Composed .imm .read s (runPart composeImm (beginInstr op seq (service s))) := by
  have hb := h.2.2.2.1
  have hy := h.2.2.1
  rw [begin_at_boundary h]
  constructor <;>
    simp [runPart, composeImm, tick, runMicro, service, hy, Mode.operandBytes, modeTrace, modeReads, pointerReads,
      dummyReads, indexBase, effectiveAddr, operandByte, byte1, readEntry]

/-- R205: zero page. -/
theorem compose_zp {s : State} (h : AtBoundary s) (op : Byte) (seq : List MicroOp) (k : Kind) :
    Composed .zp k s (runPart (composeZp k) (beginInstr op seq (service s))) := by
  have hb := h.2.2.2.1
  have hy := h.2.2.1
  rw [begin_at_boundary h]
  cases k <;> constructor <;>
    simp [runPart, composeZp, operandRead, tick, runMicro, service, hy, Mode.operandBytes, modeTrace, modeReads,
      pointerReads, dummyReads, indexBase, effectiveAddr, operandByte, byte1, readEntry]

/-- R207: absolute. -/
theorem compose_abs {s : State} (h : AtBoundary s) (op : Byte) (seq : List MicroOp) (k : Kind) :
    Composed .abs k s (runPart (composeAbs k) (beginInstr op seq (service s))) := by
  have hb := h.2.2.2.1
  have hy := h.2.2.1
  rw [begin_at_boundary h]
  cases k <;> constructor <;>
    simp [runPart, composeAbs, operandRead, tick, runMicro, service, hy, Mode.operandBytes, modeTrace, modeReads,
      pointerReads, dummyReads, indexBase, effectiveAddr, operandByte, byte1, byte2, word12, readEntry, BitVec.add_assoc]

/-- R208: absolute indexed by X. -/
theorem compose_abx {s : State} (h : AtBoundary s) (op : Byte) (seq : List MicroOp) (k : Kind) :
    Composed .abx k s (runPart (composeAbsIdx .x k) (beginInstr op seq (service s))) := by
  have hb := h.2.2.2.1
  have hy := h.2.2.1
  rw [begin_at_boundary h]
  rcases hc : pageCross (lo8 (word12 s)) s.x with _ | _
  · have hn := addIdx_noCross hc
    simp only [word12, byte1, byte2, lo8_mk16, hi8_mk16] at hc hn
    cases k <;> constructor <;>
      simp [runPart, composeAbsIdx, indexFix, tick, runMicro, service, State.index, hy, hc, hn, Mode.operandBytes, modeTrace,
        modeReads, pointerReads, dummyReads, indexBase, effectiveAddr, operandByte, byte1, byte2, word12, uncorrected,
        readEntry, BitVec.add_assoc]
  · have hn := addIdx_cross hc
    simp only [word12, byte1, byte2, lo8_mk16, hi8_mk16] at hc hn
    cases k <;> constructor <;>
      simp [runPart, composeAbsIdx, indexFix, tick, runMicro, service, State.index, hy, hc, hn, Mode.operandBytes, modeTrace,
        modeReads, pointerReads, dummyReads, indexBase, effectiveAddr, operandByte, byte1, byte2, word12, uncorrected,
        readEntry, BitVec.add_assoc]

/-- R208: absolute indexed by Y. -/
theorem compose_aby {s : State} (h : AtBoundary s) (op : Byte) (seq : List MicroOp) (k : Kind) :
    Composed .aby k s (runPart (composeAbsIdx .y k) (beginInstr op seq (service s))) := by
  have hb := h.2.2.2.1
  have hy := h.2.2.1
  rw [begin_at_boundary h]
  rcases hc : pageCross (lo8 (word12 s)) s.y with _ | _
  · have hn := addIdx_noCross hc
    simp only [word12, byte1, byte2, lo8_mk16, hi8_mk16] at hc hn
    cases k <;> constructor <;>
      simp [runPart, composeAbsIdx, indexFix, tick, runMicro, service, State.index, hy, hc, hn, Mode.operandBytes, modeTrace,
        modeReads, pointerReads, dummyReads, indexBase, effectiveAddr, operandByte, byte1, byte2, word12, uncorrected,
        readEntry, BitVec.add_assoc]
  · have hn := addIdx_cross hc
    simp only [word12, byte1, byte2, lo8_mk16, hi8_mk16] at hc hn
    cases k <;> constructor <;>
      simp [runPart, composeAbsIdx, indexFix, tick, runMicro, service, State.index, hy, hc, hn, Mode.operandBytes, modeTrace,
        modeReads, pointerReads, dummyReads, indexBase, effectiveAddr, operandByte, byte1, byte2, word12, uncorrected,
        readEntry, BitVec.add_assoc]

/-- R206: zero page indexed by X. -/
theorem compose_zpx {s : State} (h : AtBoundary s) (op : Byte) (seq : List MicroOp) (k : Kind) :
    Composed .zpx k s (runPart (composeZpIdx .x k) (beginInstr op seq (service s))) := by
  have hb := h.2.2.2.1
  have hy := h.2.2.1
  rw [begin_at_boundary h]
  cases k <;> constructor <;>
    simp [runPart, composeZpIdx, operandRead, tick, runMicro, service, State.index, hy, Mode.operandBytes, modeTrace,
      modeReads, pointerReads, dummyReads, indexBase, effectiveAddr, operandByte, byte1, readEntry, mk16_zero]

/-- R206: zero page indexed by Y. -/
theorem compose_zpy {s : State} (h : AtBoundary s) (op : Byte) (seq : List MicroOp) (k : Kind) :
    Composed .zpy k s (runPart (composeZpIdx .y k) (beginInstr op seq (service s))) := by
  have hb := h.2.2.2.1
  have hy := h.2.2.1
  rw [begin_at_boundary h]
  cases k <;> constructor <;>
    simp [runPart, composeZpIdx, operandRead, tick, runMicro, service, State.index, hy, Mode.operandBytes, modeTrace,
      modeReads, pointerReads, dummyReads, indexBase, effectiveAddr, operandByte, byte1, readEntry, mk16_zero]

/-- R210: indexed-indirect. -/
theorem compose_izx {s : State} (h : AtBoundary s) (op : Byte) (seq : List MicroOp) (k : Kind) :
    Composed .izx k s (runPart (composeIzx k) (beginInstr op seq (service s))) := by
  have hb := h.2.2.2.1
  have hy := h.2.2.1
  rw [begin_at_boundary h]
  cases k <;> constructor <;>
    simp [runPart, composeIzx, operandRead, tick, runMicro, service, State.index, hy, Mode.operandBytes, modeTrace,
      modeReads, pointerReads, dummyReads, indexBase, effectiveAddr, operandByte, byte1, readEntry, mk16_zero, zpWord]

/-- R211: indirect-indexed. -/
theorem compose_izy {s : State} (h : AtBoundary s) (op : Byte) (seq : List MicroOp) (k : Kind) :
    Composed .izy k s (runPart (composeIzy k) (beginInstr op seq (service s))) := by
  have hb := h.2.2.2.1
  have hy := h.2.2.1
  rw [begin_at_boundary h]
  rcases hc : pageCross (lo8 (zpWord s.mem (byte1 s))) s.y with _ | _
  · have hn := addIdx_noCross hc
    simp only [zpWord, byte1, lo8_mk16, hi8_mk16] at hc hn
    cases k <;> constructor <;>
      simp [runPart, composeIzy, indexFix, tick, runMicro, service, State.index, hy, hc, hn, Mode.operandBytes, modeTrace,
        modeReads, pointerReads, dummyReads, indexBase, effectiveAddr, operandByte, byte1, zpWord, uncorrected,
        readEntry, mk16_zero]
  · have hn := addIdx_cross hc
    simp only [zpWord, byte1, lo8_mk16, hi8_mk16] at hc hn
    cases k <;> constructor <;>
      simp [runPart, composeIzy, indexFix, tick, runMicro, service, State.index, hy, hc, hn, Mode.operandBytes, modeTrace,
        modeReads, pointerReads, dummyReads, indexBase, effectiveAddr, operandByte, byte1, zpWord, uncorrected,
        readEntry, mk16_zero]

/-- R200: every composer of a data-access mode meets the contract. Immediate mode has kind R only (R204). -/
theorem compose_spec {m : Mode} {k : Kind} {s : State} (hm : isDataMode m = true) (hk : m = .imm → k = .read)
    (h : AtBoundary s) (op : Byte) (seq : List MicroOp) :
    Composed m k s (runPart (composerOf m k) (beginInstr op seq (service s))) := by
  cases m <;> simp only [isDataMode, Bool.false_eq_true] at hm
  · rw [hk rfl]
    exact compose_imm h op seq
  · exact compose_zp h op seq k
  · exact compose_zpx h op seq k
  · exact compose_zpy h op seq k
  · exact compose_abs h op seq k
  · exact compose_abx h op seq k
  · exact compose_aby h op seq k
  · exact compose_izx h op seq k
  · exact compose_izy h op seq k

end Sys2Proof.Machine
end

