-- ==== Sys2Proof/Laws/Instr.lean ====
section
/-! SUPPORT. What a whole instruction is: every arm of `exec` runs its table entry's sequence, and from an instruction
boundary it always completes at one. -/

namespace Sys2Proof.Machine

/-- R240: every instruction's meaning is its micro-op sequence, run whole. -/
theorem exec_eq (i : Instr) (s : State) : exec i s = runInstruction i.opcode (seqOf i) s := by
  cases i <;> rfl

/-- R248: from an instruction boundary an instruction runs. -/
theorem runInstruction_at_boundary {s : State} (h : AtBoundary s) (op : Byte) (seq : List MicroOp) :
    runInstruction op seq s = .next (runToEnd seq (beginInstr op seq (service s))) := by
  obtain ⟨hc, hf, hy, -⟩ := h
  simp [runInstruction, hc, hf, hy]

theorem exec_at_boundary {s : State} (h : AtBoundary s) (i : Instr) :
    exec i s = .next (runToEnd (seqOf i) (beginInstr i.opcode (seqOf i) (service s))) := by
  rw [exec_eq, runInstruction_at_boundary h]

/-- What a meaning that answers a next state answers. -/
theorem runInstruction_next {op : Byte} {seq : List MicroOp} {s t : State} (h : runInstruction op seq s = .next t) :
    s.fault = false ∧ s.yield = false ∧ BetweenInstructions s ∧
      t = runToEnd seq (beginInstr op seq (service s)) := by
  unfold runInstruction at h
  split at h
  · cases h
  · next hf =>
    split at h
    · cases h
    · next hy =>
      simp only [Bool.or_eq_true, bne_iff_ne, ne_eq, not_or, Bool.not_eq_true, Decidable.not_not] at hy
      cases h
      exact ⟨by simpa using hf, hy.1, hy.2, rfl⟩

/-- R103: the opcode byte of an instruction decodes to it. -/
theorem decodeOpcode_opcode (i : Instr) : decodeOpcode i.opcode = some i := by
  cases i <;> rfl

/-- R103: no two opcode bytes decode to the same instruction, so the instruction gives the byte back. -/
theorem opcode_of_decodeOpcode {op : Byte} {i : Instr} (h : decodeOpcode op = some i) : i.opcode = op := by
  have all : ∀ b : Byte, (decodeOpcode b).all (fun j => j.opcode == b) = true := by decide
  have := all op
  rw [h] at this
  simpa using this

end Sys2Proof.Machine
end

