-- ==== Sys2Proof/Laws/PerInstr.lean ====
section
/-! SUPPORT. Lemmas stated per instruction: the opcode byte that the encoder gives a table entry decodes to that entry
(30_encoding.md R103, R109). -/

namespace Sys2Proof.Laws.TableRow

/-- R103: the instruction's opcode byte stands at the instruction's place in the opcode map. -/
def Statement (i : Instr) : Prop := decodeOpcode i.opcode = some i

theorem ldaImm : Statement .ldaImm := rfl
theorem ldaZp : Statement .ldaZp := rfl
theorem ldaZpx : Statement .ldaZpx := rfl
theorem ldaAbs : Statement .ldaAbs := rfl
theorem ldaAbx : Statement .ldaAbx := rfl
theorem ldaAby : Statement .ldaAby := rfl
theorem ldaIzx : Statement .ldaIzx := rfl
theorem ldaIzy : Statement .ldaIzy := rfl
theorem ldxImm : Statement .ldxImm := rfl
theorem ldxZp : Statement .ldxZp := rfl
theorem ldxZpy : Statement .ldxZpy := rfl
theorem ldxAbs : Statement .ldxAbs := rfl
theorem ldxAby : Statement .ldxAby := rfl
theorem ldyImm : Statement .ldyImm := rfl
theorem ldyZp : Statement .ldyZp := rfl
theorem ldyZpx : Statement .ldyZpx := rfl
theorem ldyAbs : Statement .ldyAbs := rfl
theorem ldyAbx : Statement .ldyAbx := rfl
theorem staZp : Statement .staZp := rfl
theorem staZpx : Statement .staZpx := rfl
theorem staAbs : Statement .staAbs := rfl
theorem staAbx : Statement .staAbx := rfl
theorem staAby : Statement .staAby := rfl
theorem staIzx : Statement .staIzx := rfl
theorem staIzy : Statement .staIzy := rfl
theorem stxZp : Statement .stxZp := rfl
theorem stxZpy : Statement .stxZpy := rfl
theorem stxAbs : Statement .stxAbs := rfl
theorem styZp : Statement .styZp := rfl
theorem styZpx : Statement .styZpx := rfl
theorem styAbs : Statement .styAbs := rfl
theorem adcImm : Statement .adcImm := rfl
theorem adcZp : Statement .adcZp := rfl
theorem adcZpx : Statement .adcZpx := rfl
theorem adcAbs : Statement .adcAbs := rfl
theorem adcAbx : Statement .adcAbx := rfl
theorem adcAby : Statement .adcAby := rfl
theorem adcIzx : Statement .adcIzx := rfl
theorem adcIzy : Statement .adcIzy := rfl
theorem sbcImm : Statement .sbcImm := rfl
theorem sbcZp : Statement .sbcZp := rfl
theorem sbcZpx : Statement .sbcZpx := rfl
theorem sbcAbs : Statement .sbcAbs := rfl
theorem sbcAbx : Statement .sbcAbx := rfl
theorem sbcAby : Statement .sbcAby := rfl
theorem sbcIzx : Statement .sbcIzx := rfl
theorem sbcIzy : Statement .sbcIzy := rfl
theorem andImm : Statement .andImm := rfl
theorem andZp : Statement .andZp := rfl
theorem andZpx : Statement .andZpx := rfl
theorem andAbs : Statement .andAbs := rfl
theorem andAbx : Statement .andAbx := rfl
theorem andAby : Statement .andAby := rfl
theorem andIzx : Statement .andIzx := rfl
theorem andIzy : Statement .andIzy := rfl
theorem oraImm : Statement .oraImm := rfl
theorem oraZp : Statement .oraZp := rfl
theorem oraZpx : Statement .oraZpx := rfl
theorem oraAbs : Statement .oraAbs := rfl
theorem oraAbx : Statement .oraAbx := rfl
theorem oraAby : Statement .oraAby := rfl
theorem oraIzx : Statement .oraIzx := rfl
theorem oraIzy : Statement .oraIzy := rfl
theorem eorImm : Statement .eorImm := rfl
theorem eorZp : Statement .eorZp := rfl
theorem eorZpx : Statement .eorZpx := rfl
theorem eorAbs : Statement .eorAbs := rfl
theorem eorAbx : Statement .eorAbx := rfl
theorem eorAby : Statement .eorAby := rfl
theorem eorIzx : Statement .eorIzx := rfl
theorem eorIzy : Statement .eorIzy := rfl
theorem cmpImm : Statement .cmpImm := rfl
theorem cmpZp : Statement .cmpZp := rfl
theorem cmpZpx : Statement .cmpZpx := rfl
theorem cmpAbs : Statement .cmpAbs := rfl
theorem cmpAbx : Statement .cmpAbx := rfl
theorem cmpAby : Statement .cmpAby := rfl
theorem cmpIzx : Statement .cmpIzx := rfl
theorem cmpIzy : Statement .cmpIzy := rfl
theorem cpxImm : Statement .cpxImm := rfl
theorem cpxZp : Statement .cpxZp := rfl
theorem cpxAbs : Statement .cpxAbs := rfl
theorem cpyImm : Statement .cpyImm := rfl
theorem cpyZp : Statement .cpyZp := rfl
theorem cpyAbs : Statement .cpyAbs := rfl
theorem bitZp : Statement .bitZp := rfl
theorem bitAbs : Statement .bitAbs := rfl
theorem aslAcc : Statement .aslAcc := rfl
theorem aslZp : Statement .aslZp := rfl
theorem aslZpx : Statement .aslZpx := rfl
theorem aslAbs : Statement .aslAbs := rfl
theorem aslAbx : Statement .aslAbx := rfl
theorem lsrAcc : Statement .lsrAcc := rfl
theorem lsrZp : Statement .lsrZp := rfl
theorem lsrZpx : Statement .lsrZpx := rfl
theorem lsrAbs : Statement .lsrAbs := rfl
theorem lsrAbx : Statement .lsrAbx := rfl
theorem rolAcc : Statement .rolAcc := rfl
theorem rolZp : Statement .rolZp := rfl
theorem rolZpx : Statement .rolZpx := rfl
theorem rolAbs : Statement .rolAbs := rfl
theorem rolAbx : Statement .rolAbx := rfl
theorem rorAcc : Statement .rorAcc := rfl
theorem rorZp : Statement .rorZp := rfl
theorem rorZpx : Statement .rorZpx := rfl
theorem rorAbs : Statement .rorAbs := rfl
theorem rorAbx : Statement .rorAbx := rfl
theorem incZp : Statement .incZp := rfl
theorem incZpx : Statement .incZpx := rfl
theorem incAbs : Statement .incAbs := rfl
theorem incAbx : Statement .incAbx := rfl
theorem decZp : Statement .decZp := rfl
theorem decZpx : Statement .decZpx := rfl
theorem decAbs : Statement .decAbs := rfl
theorem decAbx : Statement .decAbx := rfl
theorem inx : Statement .inx := rfl
theorem iny : Statement .iny := rfl
theorem dex : Statement .dex := rfl
theorem dey : Statement .dey := rfl
theorem tax : Statement .tax := rfl
theorem tay : Statement .tay := rfl
theorem txa : Statement .txa := rfl
theorem tya : Statement .tya := rfl
theorem tsx : Statement .tsx := rfl
theorem txs : Statement .txs := rfl
theorem clc : Statement .clc := rfl
theorem sec : Statement .sec := rfl
theorem cli : Statement .cli := rfl
theorem sei : Statement .sei := rfl
theorem cld : Statement .cld := rfl
theorem sed : Statement .sed := rfl
theorem clv : Statement .clv := rfl
theorem nop : Statement .nop := rfl
theorem bpl : Statement .bpl := rfl
theorem bmi : Statement .bmi := rfl
theorem bvc : Statement .bvc := rfl
theorem bvs : Statement .bvs := rfl
theorem bcc : Statement .bcc := rfl
theorem bcs : Statement .bcs := rfl
theorem bne : Statement .bne := rfl
theorem beq : Statement .beq := rfl
theorem pha : Statement .pha := rfl
theorem php : Statement .php := rfl
theorem pla : Statement .pla := rfl
theorem plp : Statement .plp := rfl
theorem jmpAbs : Statement .jmpAbs := rfl
theorem jmpInd : Statement .jmpInd := rfl
theorem jsrAbs : Statement .jsrAbs := rfl
theorem rts : Statement .rts := rfl
theorem rti : Statement .rti := rfl
theorem brk : Statement .brk := rfl

end Sys2Proof.Laws.TableRow
end

