-- ==== Sys2Proof/Laws/Steps.lean ====
section
/-! SUPPORT. A whole instruction is its clock cycles: the steps from an instruction boundary run its calls one by one, and
after as many steps as it has transactions the machine is where `exec` says (42_decode_scheduler.md R240 to R247,
R252). -/

namespace Sys2Proof.Machine

/-- R141: a micro-op that is no yielding one leaves the yield flag alone. -/
theorem tick_quiet (m : MicroOp) (s : State) (h : mayYield m = false) : (tick m s).yield = s.yield := by
  cases m <;>
    simp_all [mayYield, tick, runMicro, adcStep, sbcStep, drawDecimal, State.setAcc, shiftStep, logicStep,
      brCommitStep, State.setReg] <;>
    (repeat' split) <;> simp_all

/-- R246 (2): what is left of a sequence that ends free ends free. -/
theorem endsFree_drop : ∀ {ops : List MicroOp} {n : Nat}, endsFree ops = true → n < ops.length →
    endsFree (ops.drop n) = true
  | _, 0, h, _ => h
  | [_], n + 1, _, hn => by simp at hn
  | _ :: m :: ms, n + 1, h, hn => endsFree_drop (ops := m :: ms) (n := n) h (by simpa using hn)

@[simp] theorem runCall_trace : ∀ (ops : List MicroOp) (s : State), (runCall ops s).trace = s.trace
  | [], _ => rfl
  | m :: ms, s => by
    rw [runCall]
    split
    · simp
    · rw [runCall_trace ms, tick_trace]

/-- R243 to R245: a call of a sequence that ends free either runs it to the end, or stops after a yield with a rest that
the next calls run. -/
theorem runCall_cases : ∀ (ops : List MicroOp) (s : State), s.yield = false → endsFree ops = true →
    (runCall ops s = runToEnd ops s) ∨
      ∃ n, 0 < n ∧ n < ops.length ∧ (runCall ops s).cursor = s.cursor + n ∧
        runToEnd ops s = runToEnd (ops.drop n) (service (runCall ops s))
  | [], _, _, h => by simp [endsFree] at h
  | [m], s, hy, h => by
    have hm : (runMicro m s).yield = false := by
      have := tick_quiet m s (by simpa [endsFree] using h)
      simpa [hy] using this
    left
    simp [runCall, runToEnd, hm]
  | m :: m' :: ms, s, hy, h => by
    cases hm : (runMicro m s).yield
    · have e1 : runCall (m :: m' :: ms) s = runCall (m' :: ms) (tick m s) := by rw [runCall]; simp [hm]
      rw [e1, runToEnd_quiet hm]
      rcases runCall_cases (m' :: ms) (tick m s) (by simpa using hm) h with h1 | ⟨n, h0, hn, hc, hr⟩
      · exact .inl h1
      · refine .inr ⟨n + 1, by omega, by simpa using hn, ?_, by simpa using hr⟩
        rw [hc, tick_advances]
        omega
    · have e1 : runCall (m :: m' :: ms) s = clearYield (tick m s) := by rw [runCall]; simp [hm]
      rw [e1, runToEnd_yield hm]
      exact .inr ⟨1, by omega, by simp, by rw [clearYield_cursor, tick_advances], rfl⟩

/-- R247: from the middle of an instruction, the steps run what is left of it, one transaction a step, and every state
before the last is in the middle too. -/
theorem runSteps_middle : ∀ (k : Nat) (s : State), s.fault = false → s.yield = false → s.cursor < s.seq.length →
    endsFree s.rest = true → s.rest.length ≤ k →
    ∃ n, 0 < n ∧ runSteps n s = .next (runToEnd s.rest (service s)) ∧
      (runToEnd s.rest (service s)).trace.length = s.trace.length + n ∧
      ∀ j, j < n → ∃ u, runSteps j s = .next u ∧ ¬ BetweenInstructions u
  | 0, s, _, _, hc, _, hk => by
    simp [State.rest] at hk
    omega
  | k + 1, s, hf, hy, hc, he, hk => by
    have hs : step s = .next (runCall s.rest (service s)) := by
      rw [step_middle hf hy hc, callCore]
      simp [State.rest]
    have mid : ¬ BetweenInstructions s := by
      unfold BetweenInstructions
      omega
    rcases runCall_cases s.rest (service s) (by simpa using hy) he with h1 | ⟨n, h0, hn, hcur, hr⟩
    · refine ⟨1, by omega, ?_, ?_, ?_⟩
      · simp [runSteps, hs, h1]
      · rw [← h1, runCall_trace, service_trace_length]
      · intro j hj
        obtain rfl : j = 0 := by omega
        exact ⟨s, rfl, mid⟩
    · have hlen : s.rest.length = s.seq.length - s.cursor := by simp [State.rest]
      have hrest : (runCall s.rest (service s)).rest = s.rest.drop n := by
        simp [State.rest] at hcur ⊢
        rw [hcur, Nat.add_comm]
      have hmid : (runCall s.rest (service s)).cursor < (runCall s.rest (service s)).seq.length := by
        rw [hcur, runCall_seq]
        simp
        omega
      obtain ⟨n', hn', hrun, htr, hall⟩ := runSteps_middle k (runCall s.rest (service s)) (by simpa using hf) (by simp)
        hmid (by rw [hrest]; exact endsFree_drop he hn) (by rw [hrest, List.length_drop]; omega)
      rw [hrest, ← hr] at hrun htr
      refine ⟨n' + 1, by omega, ?_, ?_, ?_⟩
      · simp [runSteps, hs, hrun]
      · rw [htr, runCall_trace, service_trace_length]
        omega
      · intro j hj
        cases j with
        | zero => exact ⟨s, rfl, mid⟩
        | succ j =>
          obtain ⟨u, hu, hu'⟩ := hall j (by omega)
          exact ⟨u, by simp [runSteps, hs, hu], hu'⟩

/-- R246 (2): every sequence of the table ends free, and none is empty. -/
theorem endsFree_seqOf (i : Instr) : endsFree (seqOf i) = true := by
  cases i <;> rfl

/-- R175 to R177: a branch leaves no target pending. -/
theorem runToEnd_branch_bt (f : Flag) (b : Bool) (s : State) :
    (runToEnd (branchSeq f b) s).bt = none := by
  have e : branchSeq f b = [.rdPcInc, .ldV, .brTest f b, .brFix] ++ [.brCommit] := rfl
  rw [e, runToEnd_append]
  cases hb : (runPart [.rdPcInc, .ldV, .brTest f b, .brFix] s).bt <;>
    simp [runToEnd, tick, runMicro, brCommitStep, hb] <;> split <;> simp_all

/-- R248: the micro-ops of an instruction leave no branch target pending. -/
theorem runToEnd_seqOf_bt (i : Instr) (s : State) (h : s.bt = none) : (runToEnd (seqOf i) s).bt = none := by
  cases i
  case bpl => exact runToEnd_branch_bt _ _ s
  case bmi => exact runToEnd_branch_bt _ _ s
  case bvc => exact runToEnd_branch_bt _ _ s
  case bvs => exact runToEnd_branch_bt _ _ s
  case bcc => exact runToEnd_branch_bt _ _ s
  case bcs => exact runToEnd_branch_bt _ _ s
  case bne => exact runToEnd_branch_bt _ _ s
  case beq => exact runToEnd_branch_bt _ _ s
  all_goals exact (runToEnd_bt s (by decide)).trans h

/-- R248: an instruction that starts at a boundary ends at one. -/
theorem exec_boundary {s t : State} {i : Instr} (h : AtBoundary s) (hx : exec i s = .next t) : AtBoundary t := by
  rw [exec_at_boundary h] at hx
  cases hx
  obtain ⟨-, h2, -, h4, -, -⟩ := h
  have hf := runToEnd_fetch (seqOf i) (beginInstr i.opcode (seqOf i) (service s))
  exact ⟨by simp [beginInstr], by simp [beginInstr, h2], hf.1, runToEnd_seqOf_bt i _ (by simp [beginInstr, h4]), hf.2.1, hf.2.2⟩

/-- R213: a read instruction from a boundary is its composer, which leaves the operand on the bus, the latch, and its
operation. -/
theorem exec_read {i : Instr} {s : State} {op : List MicroOp} (h : AtBoundary s) (hm : isDataMode i.mode = true)
    (hs : seqOf i = composerOf i.mode .read ++ .ldV :: op) :
    ∃ u, Composed i.mode .read s u ∧ exec i s = .next (runToEnd op (tick .ldV u)) := by
  have C := compose_spec (k := .read) hm (fun _ => rfl) h i.opcode (seqOf i)
  refine ⟨_, C, ?_⟩
  rw [exec_at_boundary h]
  congr 1
  conv => lhs; rw [hs]
  rw [runToEnd_append, ← hs, runToEnd_quiet]
  exact C.yield

/-- R214: a store from a boundary is its composer, which leaves the effective address in `w`, and the write tail. -/
theorem exec_write {i : Instr} {s : State} {r : Source} (h : AtBoundary s) (hm : isDataMode i.mode = true)
    (hi : i.mode ≠ .imm) (hs : seqOf i = composerOf i.mode .write ++ writeTail r) :
    ∃ u, Composed i.mode .write s u ∧ exec i s = .next (runToEnd (writeTail r) u) := by
  have C := compose_spec (k := .write) hm (fun e => absurd e hi) h i.opcode (seqOf i)
  refine ⟨_, C, ?_⟩
  rw [exec_at_boundary h]
  congr 1
  conv => lhs; rw [hs]
  rw [runToEnd_append, ← hs]

/-- R215: a read-modify-write instruction from a boundary is its composer, which leaves the effective address in `w` and
the operand on the bus, and the read-modify-write tail. -/
theorem exec_rmw {i : Instr} {s : State} {alu : MicroOp} (h : AtBoundary s) (hm : isDataMode i.mode = true)
    (hi : i.mode ≠ .imm) (hs : seqOf i = composerOf i.mode .rmw ++ rmwTail alu) :
    ∃ u, Composed i.mode .rmw s u ∧ exec i s = .next (runToEnd (rmwTail alu) u) := by
  have C := compose_spec (k := .rmw) hm (fun e => absurd e hi) h i.opcode (seqOf i)
  refine ⟨_, C, ?_⟩
  rw [exec_at_boundary h]
  congr 1
  conv => lhs; rw [hs]
  rw [runToEnd_append, ← hs]

end Sys2Proof.Machine
end

