-- ==== Sys2Proof/Tests/Slice0.lean ====
section
/-! SUPPORT. Tests. The checks of WellFormed refuse ill-formed terms; every opcode byte of the table decodes to its
instruction; the vectors of 95_test_vectors.md, one whole instruction each; the first clock cycles of the source's
scenarios; and for every statement with hypotheses a state that meets them. -/

namespace Sys2Proof.Machine

/-! ### Well-formedness refuses -/

/-- R101: an operand of another kind than the mode's is refused, for each kind of operand. -/
theorem test_insn_wf_refuses :
    [Insn.wf ⟨.nop, .imm8 0#8⟩, Insn.wf ⟨.aslAcc, .zp8 0#8⟩, Insn.wf ⟨.ldaImm, .zp8 0#8⟩, Insn.wf ⟨.ldaZp, .addr 0#16⟩,
      Insn.wf ⟨.ldaZpx, .off8 0#8⟩, Insn.wf ⟨.ldxZpy, .none⟩, Insn.wf ⟨.ldaAbs, .ptr 0#16⟩, Insn.wf ⟨.ldaAbx, .imm8 0#8⟩,
      Insn.wf ⟨.ldaAby, .zp8 0#8⟩, Insn.wf ⟨.jmpInd, .addr 0#16⟩, Insn.wf ⟨.ldaIzx, .imm8 0#8⟩,
      Insn.wf ⟨.ldaIzy, .ptr 0#16⟩, Insn.wf ⟨.bne, .zp8 0#8⟩] = List.replicate 13 false := by
  decide

theorem test_insn_wf_accepts :
    [Insn.wf ⟨.nop, .none⟩, Insn.wf ⟨.aslAcc, .none⟩, Insn.wf ⟨.ldaImm, .imm8 0#8⟩, Insn.wf ⟨.ldaZp, .zp8 0#8⟩,
      Insn.wf ⟨.ldaAbs, .addr 0#16⟩, Insn.wf ⟨.jmpInd, .ptr 0#16⟩, Insn.wf ⟨.bne, .off8 0#8⟩] =
        List.replicate 7 true := by
  decide

/-- R246 (1): a sequence that starts with no fetch. -/
theorem test_wfSeq_refuses_start : startsWithFetch [.rdW, .done] = false ∧ wfSeq [.rdW, .done] = false := by decide

/-- R246 (2): a sequence that ends in a yield, and the empty one. -/
theorem test_wfSeq_refuses_end : endsFree [.rdPc, .rdW] = false ∧ wfSeq [.rdPc, .rdW] = false ∧ endsFree [] = false := by
  decide

/-- R246 (3): a latch after a write. -/
theorem test_wfSeq_refuses_latch :
    latchesRead true [.rdPcInc, .ldWZ, .wrW, .ldV] = false ∧ wfSeq [.rdPcInc, .ldWZ, .wrW, .ldV] = false := by decide

/-- R246 (4): an index addition nothing consumes, and two of them. -/
theorem test_wfSeq_refuses_carry :
    wfSeq [.rdPcInc, .ldWZ, .addIdx .x, .rdW, .ldV] = false ∧
      wfSeq [.rdPcInc, .ldWZ, .addIdx .x, .rdW, .addIdx .y, .fixCross, .ldV] = false := by
  decide

/-- R246 (5): a branch test that is not closed, and a branch end with no test. -/
theorem test_wfSeq_refuses_branch :
    wfSeq [.rdPcInc, .ldV, .brTest .c true, .brCommit] = false ∧ wfSeq [.rdPcInc, .brCommit] = false := by
  decide

/-- R158, R170, R175, R191: a parameter the primitive does not have. -/
theorem test_wfSeq_refuses_parameters :
    wfSeq [.rdPc, .setF .n true] = false ∧ wfSeq [.rdPcInc, .ldV, .cmpV .s] = false ∧
      wfSeq [.rdPc, .setW 0xFFFC#16] = false ∧
      wfSeq [.rdPcInc, .ldV, .brTest .d true, .brFix, .brCommit] = false := by
  decide

/-- Memory.wf refuses cells out of order, outside the address space, and with the value of an unlisted address. -/
theorem test_memory_wf_refuses :
    Memory.wf [(2, 1#8), (1, 1#8)] = false ∧ Memory.wf [(65536, 1#8)] = false ∧ Memory.wf [(3, 0#8)] = false ∧
      Memory.wf [(3, 1#8), (3, 2#8)] = false := by
  decide

/-! ### Decode -/

/-- spec/opcode_table.json and R103, row 0x. -/
theorem test_decode_row_0 :
    [0x00, 0x01, 0x05, 0x06, 0x08, 0x09, 0x0A, 0x0D, 0x0E].map (decodeTableWord 8) =
      [some .brk, some .oraIzx, some .oraZp, some .aslZp, some .php, some .oraImm,
        some .aslAcc, some .oraAbs, some .aslAbs] := by
  decide

/-- spec/opcode_table.json and R103, row 1x. -/
theorem test_decode_row_1 :
    [0x10, 0x11, 0x15, 0x16, 0x18, 0x19, 0x1D, 0x1E].map (decodeTableWord 8) =
      [some .bpl, some .oraIzy, some .oraZpx, some .aslZpx, some .clc, some .oraAby,
        some .oraAbx, some .aslAbx] := by
  decide

/-- spec/opcode_table.json and R103, row 2x. -/
theorem test_decode_row_2 :
    [0x20, 0x21, 0x24, 0x25, 0x26, 0x28, 0x29, 0x2A, 0x2C, 0x2D, 0x2E].map (decodeTableWord 8) =
      [some .jsrAbs, some .andIzx, some .bitZp, some .andZp, some .rolZp, some .plp,
        some .andImm, some .rolAcc, some .bitAbs, some .andAbs, some .rolAbs] := by
  decide

/-- spec/opcode_table.json and R103, row 3x. -/
theorem test_decode_row_3 :
    [0x30, 0x31, 0x35, 0x36, 0x38, 0x39, 0x3D, 0x3E].map (decodeTableWord 8) =
      [some .bmi, some .andIzy, some .andZpx, some .rolZpx, some .sec, some .andAby,
        some .andAbx, some .rolAbx] := by
  decide

/-- spec/opcode_table.json and R103, row 4x. -/
theorem test_decode_row_4 :
    [0x40, 0x41, 0x45, 0x46, 0x48, 0x49, 0x4A, 0x4C, 0x4D, 0x4E].map (decodeTableWord 8) =
      [some .rti, some .eorIzx, some .eorZp, some .lsrZp, some .pha, some .eorImm,
        some .lsrAcc, some .jmpAbs, some .eorAbs, some .lsrAbs] := by
  decide

/-- spec/opcode_table.json and R103, row 5x. -/
theorem test_decode_row_5 :
    [0x50, 0x51, 0x55, 0x56, 0x58, 0x59, 0x5D, 0x5E].map (decodeTableWord 8) =
      [some .bvc, some .eorIzy, some .eorZpx, some .lsrZpx, some .cli, some .eorAby,
        some .eorAbx, some .lsrAbx] := by
  decide

/-- spec/opcode_table.json and R103, row 6x. -/
theorem test_decode_row_6 :
    [0x60, 0x61, 0x65, 0x66, 0x68, 0x69, 0x6A, 0x6C, 0x6D, 0x6E].map (decodeTableWord 8) =
      [some .rts, some .adcIzx, some .adcZp, some .rorZp, some .pla, some .adcImm,
        some .rorAcc, some .jmpInd, some .adcAbs, some .rorAbs] := by
  decide

/-- spec/opcode_table.json and R103, row 7x. -/
theorem test_decode_row_7 :
    [0x70, 0x71, 0x75, 0x76, 0x78, 0x79, 0x7D, 0x7E].map (decodeTableWord 8) =
      [some .bvs, some .adcIzy, some .adcZpx, some .rorZpx, some .sei, some .adcAby,
        some .adcAbx, some .rorAbx] := by
  decide

/-- spec/opcode_table.json and R103, row 8x. -/
theorem test_decode_row_8 :
    [0x81, 0x84, 0x85, 0x86, 0x88, 0x8A, 0x8C, 0x8D, 0x8E].map (decodeTableWord 8) =
      [some .staIzx, some .styZp, some .staZp, some .stxZp, some .dey, some .txa,
        some .styAbs, some .staAbs, some .stxAbs] := by
  decide

/-- spec/opcode_table.json and R103, row 9x. -/
theorem test_decode_row_9 :
    [0x90, 0x91, 0x94, 0x95, 0x96, 0x98, 0x99, 0x9A, 0x9D].map (decodeTableWord 8) =
      [some .bcc, some .staIzy, some .styZpx, some .staZpx, some .stxZpy, some .tya,
        some .staAby, some .txs, some .staAbx] := by
  decide

/-- spec/opcode_table.json and R103, row Ax. -/
theorem test_decode_row_A :
    [0xA0, 0xA1, 0xA2, 0xA4, 0xA5, 0xA6, 0xA8, 0xA9, 0xAA, 0xAC, 0xAD, 0xAE].map (decodeTableWord 8) =
      [some .ldyImm, some .ldaIzx, some .ldxImm, some .ldyZp, some .ldaZp, some .ldxZp,
        some .tay, some .ldaImm, some .tax, some .ldyAbs, some .ldaAbs, some .ldxAbs] := by
  decide

/-- spec/opcode_table.json and R103, row Bx. -/
theorem test_decode_row_B :
    [0xB0, 0xB1, 0xB4, 0xB5, 0xB6, 0xB8, 0xB9, 0xBA, 0xBC, 0xBD, 0xBE].map (decodeTableWord 8) =
      [some .bcs, some .ldaIzy, some .ldyZpx, some .ldaZpx, some .ldxZpy, some .clv,
        some .ldaAby, some .tsx, some .ldyAbx, some .ldaAbx, some .ldxAby] := by
  decide

/-- spec/opcode_table.json and R103, row Cx. -/
theorem test_decode_row_C :
    [0xC0, 0xC1, 0xC4, 0xC5, 0xC6, 0xC8, 0xC9, 0xCA, 0xCC, 0xCD, 0xCE].map (decodeTableWord 8) =
      [some .cpyImm, some .cmpIzx, some .cpyZp, some .cmpZp, some .decZp, some .iny,
        some .cmpImm, some .dex, some .cpyAbs, some .cmpAbs, some .decAbs] := by
  decide

/-- spec/opcode_table.json and R103, row Dx. -/
theorem test_decode_row_D :
    [0xD0, 0xD1, 0xD5, 0xD6, 0xD8, 0xD9, 0xDD, 0xDE].map (decodeTableWord 8) =
      [some .bne, some .cmpIzy, some .cmpZpx, some .decZpx, some .cld, some .cmpAby,
        some .cmpAbx, some .decAbx] := by
  decide

/-- spec/opcode_table.json and R103, row Ex. -/
theorem test_decode_row_E :
    [0xE0, 0xE1, 0xE4, 0xE5, 0xE6, 0xE8, 0xE9, 0xEA, 0xEC, 0xED, 0xEE].map (decodeTableWord 8) =
      [some .cpxImm, some .sbcIzx, some .cpxZp, some .sbcZp, some .incZp, some .inx,
        some .sbcImm, some .nop, some .cpxAbs, some .sbcAbs, some .incAbs] := by
  decide

/-- spec/opcode_table.json and R103, row Fx. -/
theorem test_decode_row_F :
    [0xF0, 0xF1, 0xF5, 0xF6, 0xF8, 0xF9, 0xFD, 0xFE].map (decodeTableWord 8) =
      [some .beq, some .sbcIzy, some .sbcZpx, some .incZpx, some .sed, some .sbcAby,
        some .sbcAbx, some .incAbx] := by
  decide

/-- R106: bytes that are no opcode are refused by name, and so is an instruction cut short. -/
theorem test_decode_refuses :
    decode [0x02#8] = .error (.unknownOpcode 0x02#8) ∧ decode [0x1A#8, 0#8] = .error (.unknownOpcode 0x1A#8) ∧
      decode [0xAD#8, 0x34#8] = .error .truncated ∧ decode [] = .error .truncated :=
  ⟨rfl, rfl, rfl, rfl⟩

/-- R102: a 16-bit operand has its low byte first; bits above the row's are zero. -/
theorem test_decode_operand_order :
    decode [0x4C#8, 0x34#8, 0x12#8, 0xEA#8] = .ok (⟨.jmpAbs, .addr 0x1234#16⟩, [0xEA#8]) ∧
      decodeTableWord 8 0x12344C = some .jmpAbs :=
  ⟨rfl, rfl⟩

/-! ### The vectors of 95_test_vectors.md -/

/-- A launch state (R603) with the listed cells. -/
def start (pc sp a x y p : Nat) (cs : List (Nat × Nat)) : State :=
  launch (BitVec.ofNat 16 pc) (BitVec.ofNat 8 sp) (BitVec.ofNat 8 a) (BitVec.ofNat 8 x) (BitVec.ofNat 8 y)
    (BitVec.ofNat 8 p) (cs.foldl (fun m c => m.put (BitVec.ofNat 16 c.1) (BitVec.ofNat 8 c.2)) [])

/-- PC, S, A, X, Y, P at the end of an instruction; nothing of one that stopped. -/
def registers : Host.Outcome State Fault Refusal → List Nat
  | .next t => [t.pc.toNat, t.sp.toNat, t.a.toNat, t.x.toNat, t.y.toNat, t.p.toNat]
  | .fault _ => []
  | .refused _ => []

/-- The bytes at the listed addresses. -/
def cells (o : Host.Outcome State Fault Refusal) (as : List Nat) : List Nat :=
  match o with
  | .next t => as.map fun a => (t.mem.at (BitVec.ofNat 16 a)).toNat
  | .fault _ => []
  | .refused _ => []

/-- The bus trace, oldest first: whether a write, the address, the byte. -/
def transactions : Host.Outcome State Fault Refusal → List (Bool × Nat × Nat)
  | .next t => t.trace.reverse.map fun b => (b.isWrite, b.address.toNat, b.data.toNat)
  | .fault _ => []
  | .refused _ => []

/-- 95_test_vectors.md V1: LDA imm. -/
theorem test_V1 :
    let t := exec .ldaImm (start 0x0200 0xFD 0x55 0x00 0x00 0x00 [(0x0200, 0xA9), (0x0201, 0x00)])
    registers t = [0x0202, 0xFD, 0x00, 0x00, 0x00, 0x02] ∧
      transactions t =
        [(false, 0x0200, 0xA9), (false, 0x0201, 0x00)] := by
  decide

/-- 95_test_vectors.md V2: LDA imm. -/
theorem test_V2 :
    let t := exec .ldaImm (start 0x0200 0xFD 0x00 0x00 0x00 0x00 [(0x0200, 0xA9), (0x0201, 0x80)])
    registers t = [0x0202, 0xFD, 0x80, 0x00, 0x00, 0x80] ∧
      transactions t =
        [(false, 0x0200, 0xA9), (false, 0x0201, 0x80)] := by
  decide

/-- 95_test_vectors.md V3: LDA zp. -/
theorem test_V3 :
    let t := exec .ldaZp (start 0x0200 0xFD 0x00 0x00 0x00 0x00 [(0x0200, 0xA5), (0x0201, 0x10), (0x0010, 0x7F)])
    registers t = [0x0202, 0xFD, 0x7F, 0x00, 0x00, 0x00] ∧
      transactions t =
        [(false, 0x0200, 0xA5), (false, 0x0201, 0x10), (false, 0x0010, 0x7F)] := by
  decide

/-- 95_test_vectors.md V4: LDA zpx. -/
theorem test_V4 :
    let t := exec .ldaZpx (start 0x0200 0xFD 0x00 0x20 0x00 0x00 [(0x0200, 0xB5), (0x0201, 0xF0), (0x0010, 0x42)])
    registers t = [0x0202, 0xFD, 0x42, 0x20, 0x00, 0x00] ∧
      transactions t =
        [(false, 0x0200, 0xB5), (false, 0x0201, 0xF0), (false, 0x00F0, 0x00), (false, 0x0010, 0x42)] := by
  decide

/-- 95_test_vectors.md V5: LDA abs. -/
theorem test_V5 :
    let t := exec .ldaAbs (start 0x0200 0xFD 0x00 0x00 0x00 0x00 [(0x0200, 0xAD), (0x0201, 0x34), (0x0202, 0x12), (0x1234, 0x99)])
    registers t = [0x0203, 0xFD, 0x99, 0x00, 0x00, 0x80] ∧
      transactions t =
        [(false, 0x0200, 0xAD), (false, 0x0201, 0x34), (false, 0x0202, 0x12), (false, 0x1234, 0x99)] := by
  decide

/-- 95_test_vectors.md V6: LDA abx. -/
theorem test_V6 :
    let t := exec .ldaAbx (start 0x0200 0xFD 0x00 0x01 0x00 0x00 [(0x0200, 0xBD), (0x0201, 0xFF), (0x0202, 0x12), (0x1300, 0x01)])
    registers t = [0x0203, 0xFD, 0x01, 0x01, 0x00, 0x00] ∧
      transactions t =
        [(false, 0x0200, 0xBD), (false, 0x0201, 0xFF), (false, 0x0202, 0x12), (false, 0x1200, 0x00), (false, 0x1300, 0x01)] := by
  decide

/-- 95_test_vectors.md V7: LDA abx. -/
theorem test_V7 :
    let t := exec .ldaAbx (start 0x0200 0xFD 0x00 0x01 0x00 0x00 [(0x0200, 0xBD), (0x0201, 0x00), (0x0202, 0x12), (0x1201, 0x05)])
    registers t = [0x0203, 0xFD, 0x05, 0x01, 0x00, 0x00] ∧
      transactions t =
        [(false, 0x0200, 0xBD), (false, 0x0201, 0x00), (false, 0x0202, 0x12), (false, 0x1201, 0x05)] := by
  decide

/-- 95_test_vectors.md V8: LDA aby. -/
theorem test_V8 :
    let t := exec .ldaAby (start 0x0200 0xFD 0x00 0x00 0x20 0x00 [(0x0200, 0xB9), (0x0201, 0xF0), (0x0202, 0xFF), (0x0010, 0x5A)])
    registers t = [0x0203, 0xFD, 0x5A, 0x00, 0x20, 0x00] ∧
      transactions t =
        [(false, 0x0200, 0xB9), (false, 0x0201, 0xF0), (false, 0x0202, 0xFF), (false, 0xFF10, 0x00), (false, 0x0010, 0x5A)] := by
  decide

/-- 95_test_vectors.md V9: LDA izx. -/
theorem test_V9 :
    let t := exec .ldaIzx (start 0x0200 0xFD 0x00 0x01 0x00 0x00 [(0x0200, 0xA1), (0x0201, 0xFE), (0x00FF, 0x00), (0x0000, 0x30), (0x3000, 0xC3)])
    registers t = [0x0202, 0xFD, 0xC3, 0x01, 0x00, 0x80] ∧
      transactions t =
        [(false, 0x0200, 0xA1), (false, 0x0201, 0xFE), (false, 0x00FE, 0x00), (false, 0x00FF, 0x00), (false, 0x0000, 0x30), (false, 0x3000, 0xC3)] := by
  decide

/-- 95_test_vectors.md V10: LDA izy. -/
theorem test_V10 :
    let t := exec .ldaIzy (start 0x0200 0xFD 0x00 0x00 0x10 0x00 [(0x0200, 0xB1), (0x0201, 0x40), (0x0040, 0xF8), (0x0041, 0x30), (0x3108, 0x11)])
    registers t = [0x0202, 0xFD, 0x11, 0x00, 0x10, 0x00] ∧
      transactions t =
        [(false, 0x0200, 0xB1), (false, 0x0201, 0x40), (false, 0x0040, 0xF8), (false, 0x0041, 0x30), (false, 0x3008, 0x00), (false, 0x3108, 0x11)] := by
  decide

/-- 95_test_vectors.md V11: LDA izy. -/
theorem test_V11 :
    let t := exec .ldaIzy (start 0x0200 0xFD 0x00 0x00 0x00 0x00 [(0x0200, 0xB1), (0x0201, 0xFF), (0x00FF, 0x00), (0x0000, 0x30), (0x3000, 0x22)])
    registers t = [0x0202, 0xFD, 0x22, 0x00, 0x00, 0x00] ∧
      transactions t =
        [(false, 0x0200, 0xB1), (false, 0x0201, 0xFF), (false, 0x00FF, 0x00), (false, 0x0000, 0x30), (false, 0x3000, 0x22)] := by
  decide

/-- 95_test_vectors.md V12: LDX zpy. -/
theorem test_V12 :
    let t := exec .ldxZpy (start 0x0200 0xFD 0x00 0x00 0x02 0x00 [(0x0200, 0xB6), (0x0201, 0xFF)])
    registers t = [0x0202, 0xFD, 0x00, 0x00, 0x02, 0x02] ∧
      transactions t =
        [(false, 0x0200, 0xB6), (false, 0x0201, 0xFF), (false, 0x00FF, 0x00), (false, 0x0001, 0x00)] := by
  decide

/-- 95_test_vectors.md V13: LDY abx. -/
theorem test_V13 :
    let t := exec .ldyAbx (start 0x0200 0xFD 0x00 0xF0 0x00 0x00 [(0x0200, 0xBC), (0x0201, 0x10), (0x0202, 0x30), (0x3100, 0x80)])
    registers t = [0x0203, 0xFD, 0x00, 0xF0, 0x80, 0x80] ∧
      transactions t =
        [(false, 0x0200, 0xBC), (false, 0x0201, 0x10), (false, 0x0202, 0x30), (false, 0x3000, 0x00), (false, 0x3100, 0x80)] := by
  decide

/-- 95_test_vectors.md V14: STY abs. -/
theorem test_V14 :
    let t := exec .styAbs (start 0x0200 0xFD 0x00 0x00 0x80 0x00 [(0x0200, 0x8C), (0x0201, 0x00), (0x0202, 0x03)])
    registers t = [0x0203, 0xFD, 0x00, 0x00, 0x80, 0x00] ∧ cells t [0x0300] = [0x80] ∧
      transactions t =
        [(false, 0x0200, 0x8C), (false, 0x0201, 0x00), (false, 0x0202, 0x03), (true, 0x0300, 0x80)] := by
  decide

/-- 95_test_vectors.md V15: STA abx. -/
theorem test_V15 :
    let t := exec .staAbx (start 0x0200 0xFD 0x42 0x05 0x00 0x00 [(0x0200, 0x9D), (0x0201, 0x00), (0x0202, 0x02)])
    registers t = [0x0203, 0xFD, 0x42, 0x05, 0x00, 0x00] ∧ cells t [0x0205] = [0x42] ∧
      transactions t =
        [(false, 0x0200, 0x9D), (false, 0x0201, 0x00), (false, 0x0202, 0x02), (false, 0x0205, 0x00), (true, 0x0205, 0x42)] := by
  decide

/-- 95_test_vectors.md V16: STA abx. -/
theorem test_V16 :
    let t := exec .staAbx (start 0x0200 0xFD 0x42 0x01 0x00 0x00 [(0x0200, 0x9D), (0x0201, 0xFF), (0x0202, 0x02)])
    registers t = [0x0203, 0xFD, 0x42, 0x01, 0x00, 0x00] ∧ cells t [0x0300] = [0x42] ∧
      transactions t =
        [(false, 0x0200, 0x9D), (false, 0x0201, 0xFF), (false, 0x0202, 0x02), (false, 0x0200, 0x9D), (true, 0x0300, 0x42)] := by
  decide

/-- 95_test_vectors.md V17: STA izy. -/
theorem test_V17 :
    let t := exec .staIzy (start 0x0200 0xFD 0x77 0x00 0x10 0x00 [(0x0200, 0x91), (0x0201, 0x40), (0x0040, 0xF8), (0x0041, 0x30)])
    registers t = [0x0202, 0xFD, 0x77, 0x00, 0x10, 0x00] ∧ cells t [0x3108] = [0x77] ∧
      transactions t =
        [(false, 0x0200, 0x91), (false, 0x0201, 0x40), (false, 0x0040, 0xF8), (false, 0x0041, 0x30), (false, 0x3008, 0x00), (true, 0x3108, 0x77)] := by
  decide

/-- 95_test_vectors.md V18: STX zpy. -/
theorem test_V18 :
    let t := exec .stxZpy (start 0x0200 0xFD 0x00 0xAB 0x01 0x00 [(0x0200, 0x96), (0x0201, 0xFF)])
    registers t = [0x0202, 0xFD, 0x00, 0xAB, 0x01, 0x00] ∧ cells t [0x0000] = [0xAB] ∧
      transactions t =
        [(false, 0x0200, 0x96), (false, 0x0201, 0xFF), (false, 0x00FF, 0x00), (true, 0x0000, 0xAB)] := by
  decide

/-- 95_test_vectors.md V19: STA izx. -/
theorem test_V19 :
    let t := exec .staIzx (start 0x0200 0xFD 0x66 0x04 0x00 0x00 [(0x0200, 0x81), (0x0201, 0x10), (0x0014, 0x00), (0x0015, 0x04)])
    registers t = [0x0202, 0xFD, 0x66, 0x04, 0x00, 0x00] ∧ cells t [0x0400] = [0x66] ∧
      transactions t =
        [(false, 0x0200, 0x81), (false, 0x0201, 0x10), (false, 0x0010, 0x00), (false, 0x0014, 0x00), (false, 0x0015, 0x04), (true, 0x0400, 0x66)] := by
  decide

/-- 95_test_vectors.md V22: ADC imm. -/
theorem test_V22 :
    let t := exec .adcImm (start 0x0200 0xFD 0x7F 0x00 0x00 0x00 [(0x0200, 0x69), (0x0201, 0x01)])
    registers t = [0x0202, 0xFD, 0x80, 0x00, 0x00, 0xC0] ∧
      transactions t =
        [(false, 0x0200, 0x69), (false, 0x0201, 0x01)] := by
  decide

/-- 95_test_vectors.md V36: SBC imm. -/
theorem test_V36 :
    let t := exec .sbcImm (start 0x0200 0xFD 0x80 0x00 0x00 0x01 [(0x0200, 0xE9), (0x0201, 0x01)])
    registers t = [0x0202, 0xFD, 0x7F, 0x00, 0x00, 0x41] ∧
      transactions t =
        [(false, 0x0200, 0xE9), (false, 0x0201, 0x01)] := by
  decide

/-- 95_test_vectors.md V40: CMP imm. -/
theorem test_V40 :
    let t := exec .cmpImm (start 0x0200 0xFD 0x20 0x00 0x00 0x40 [(0x0200, 0xC9), (0x0201, 0x20)])
    registers t = [0x0202, 0xFD, 0x20, 0x00, 0x00, 0x43] ∧ (transactions t).length = 2 := by
  decide

/-- 95_test_vectors.md V42: CMP imm. -/
theorem test_V42 :
    let t := exec .cmpImm (start 0x0200 0xFD 0x00 0x00 0x00 0x40 [(0x0200, 0xC9), (0x0201, 0x80)])
    registers t = [0x0202, 0xFD, 0x00, 0x00, 0x00, 0xC0] ∧ (transactions t).length = 2 := by
  decide

/-- 95_test_vectors.md V45: CPX imm. -/
theorem test_V45 :
    let t := exec .cpxImm (start 0x0200 0xFD 0x00 0x05 0x00 0x00 [(0x0200, 0xE0), (0x0201, 0x06)])
    registers t = [0x0202, 0xFD, 0x00, 0x05, 0x00, 0x80] ∧ (transactions t).length = 2 := by
  decide

/-- 95_test_vectors.md V46: CPY imm. -/
theorem test_V46 :
    let t := exec .cpyImm (start 0x0200 0xFD 0x00 0x00 0x00 0x00 [(0x0200, 0xC0), (0x0201, 0x00)])
    registers t = [0x0202, 0xFD, 0x00, 0x00, 0x00, 0x03] ∧ (transactions t).length = 2 := by
  decide

/-- 95_test_vectors.md V47: AND imm. -/
theorem test_V47 :
    let t := exec .andImm (start 0x0200 0xFD 0xF0 0x00 0x00 0x00 [(0x0200, 0x29), (0x0201, 0x0F)])
    registers t = [0x0202, 0xFD, 0x00, 0x00, 0x00, 0x02] ∧ (transactions t).length = 2 := by
  decide

/-- 95_test_vectors.md V48: ORA imm. -/
theorem test_V48 :
    let t := exec .oraImm (start 0x0200 0xFD 0x00 0x00 0x00 0x00 [(0x0200, 0x09), (0x0201, 0x80)])
    registers t = [0x0202, 0xFD, 0x80, 0x00, 0x00, 0x80] ∧ (transactions t).length = 2 := by
  decide

/-- 95_test_vectors.md V49: EOR imm. -/
theorem test_V49 :
    let t := exec .eorImm (start 0x0200 0xFD 0xFF 0x00 0x00 0x00 [(0x0200, 0x49), (0x0201, 0xFF)])
    registers t = [0x0202, 0xFD, 0x00, 0x00, 0x00, 0x02] ∧ (transactions t).length = 2 := by
  decide

/-- 95_test_vectors.md V50: BIT zp. -/
theorem test_V50 :
    let t := exec .bitZp (start 0x0200 0xFD 0x0F 0x00 0x00 0x00 [(0x0200, 0x24), (0x0201, 0x10), (0x0010, 0xC0)])
    registers t = [0x0202, 0xFD, 0x0F, 0x00, 0x00, 0xC2] ∧
      transactions t =
        [(false, 0x0200, 0x24), (false, 0x0201, 0x10), (false, 0x0010, 0xC0)] := by
  decide

/-- 95_test_vectors.md V51: BIT abs. -/
theorem test_V51 :
    let t := exec .bitAbs (start 0x0200 0xFD 0xFF 0x00 0x00 0xC1 [(0x0200, 0x2C), (0x0201, 0x00), (0x0202, 0x30), (0x3000, 0x01)])
    registers t = [0x0203, 0xFD, 0xFF, 0x00, 0x00, 0x01] ∧ (transactions t).length = 4 := by
  decide

/-- 95_test_vectors.md V52a: ASL acc. -/
theorem test_V52a :
    let t := exec .aslAcc (start 0x0200 0xFD 0x80 0x00 0x00 0x00 [(0x0200, 0x0A)])
    registers t = [0x0201, 0xFD, 0x00, 0x00, 0x00, 0x03] ∧
      transactions t =
        [(false, 0x0200, 0x0A), (false, 0x0201, 0x00)] := by
  decide

/-- 95_test_vectors.md V52b: ASL acc. -/
theorem test_V52b :
    let t := exec .aslAcc (start 0x0200 0xFD 0x40 0x00 0x00 0x00 [(0x0200, 0x0A)])
    registers t = [0x0201, 0xFD, 0x80, 0x00, 0x00, 0x80] ∧
      transactions t =
        [(false, 0x0200, 0x0A), (false, 0x0201, 0x00)] := by
  decide

/-- 95_test_vectors.md V52c: LSR acc. -/
theorem test_V52c :
    let t := exec .lsrAcc (start 0x0200 0xFD 0x01 0x00 0x00 0x00 [(0x0200, 0x4A)])
    registers t = [0x0201, 0xFD, 0x00, 0x00, 0x00, 0x03] ∧
      transactions t =
        [(false, 0x0200, 0x4A), (false, 0x0201, 0x00)] := by
  decide

/-- 95_test_vectors.md V52d: LSR acc. -/
theorem test_V52d :
    let t := exec .lsrAcc (start 0x0200 0xFD 0xFF 0x00 0x00 0x00 [(0x0200, 0x4A)])
    registers t = [0x0201, 0xFD, 0x7F, 0x00, 0x00, 0x01] ∧
      transactions t =
        [(false, 0x0200, 0x4A), (false, 0x0201, 0x00)] := by
  decide

/-- 95_test_vectors.md V52e: ROL acc. -/
theorem test_V52e :
    let t := exec .rolAcc (start 0x0200 0xFD 0x80 0x00 0x00 0x00 [(0x0200, 0x2A)])
    registers t = [0x0201, 0xFD, 0x00, 0x00, 0x00, 0x03] ∧
      transactions t =
        [(false, 0x0200, 0x2A), (false, 0x0201, 0x00)] := by
  decide

/-- 95_test_vectors.md V52f: ROL acc. -/
theorem test_V52f :
    let t := exec .rolAcc (start 0x0200 0xFD 0x00 0x00 0x00 0x01 [(0x0200, 0x2A)])
    registers t = [0x0201, 0xFD, 0x01, 0x00, 0x00, 0x00] ∧
      transactions t =
        [(false, 0x0200, 0x2A), (false, 0x0201, 0x00)] := by
  decide

/-- 95_test_vectors.md V52g: ROR acc. -/
theorem test_V52g :
    let t := exec .rorAcc (start 0x0200 0xFD 0x01 0x00 0x00 0x00 [(0x0200, 0x6A)])
    registers t = [0x0201, 0xFD, 0x00, 0x00, 0x00, 0x03] ∧
      transactions t =
        [(false, 0x0200, 0x6A), (false, 0x0201, 0x00)] := by
  decide

/-- 95_test_vectors.md V52h: ROR acc. -/
theorem test_V52h :
    let t := exec .rorAcc (start 0x0200 0xFD 0x00 0x00 0x00 0x01 [(0x0200, 0x6A)])
    registers t = [0x0201, 0xFD, 0x80, 0x00, 0x00, 0x80] ∧
      transactions t =
        [(false, 0x0200, 0x6A), (false, 0x0201, 0x00)] := by
  decide

/-- 95_test_vectors.md V53: ASL zp. -/
theorem test_V53 :
    let t := exec .aslZp (start 0x0200 0xFD 0x00 0x00 0x00 0x00 [(0x0200, 0x06), (0x0201, 0x10), (0x0010, 0x81)])
    registers t = [0x0202, 0xFD, 0x00, 0x00, 0x00, 0x01] ∧ cells t [0x0010] = [0x02] ∧
      transactions t =
        [(false, 0x0200, 0x06), (false, 0x0201, 0x10), (false, 0x0010, 0x81), (true, 0x0010, 0x81), (true, 0x0010, 0x02)] := by
  decide

/-- 95_test_vectors.md V54: INC abs. -/
theorem test_V54 :
    let t := exec .incAbs (start 0x0200 0xFD 0x00 0x00 0x00 0x01 [(0x0200, 0xEE), (0x0201, 0x00), (0x0202, 0x03), (0x0300, 0xFF)])
    registers t = [0x0203, 0xFD, 0x00, 0x00, 0x00, 0x03] ∧ cells t [0x0300] = [0x00] ∧
      transactions t =
        [(false, 0x0200, 0xEE), (false, 0x0201, 0x00), (false, 0x0202, 0x03), (false, 0x0300, 0xFF), (true, 0x0300, 0xFF), (true, 0x0300, 0x00)] := by
  decide

/-- 95_test_vectors.md V55: DEC abx. -/
theorem test_V55 :
    let t := exec .decAbx (start 0x0200 0xFD 0x00 0x01 0x00 0x00 [(0x0200, 0xDE), (0x0201, 0xFF), (0x0202, 0x03), (0x0400, 0x01)])
    registers t = [0x0203, 0xFD, 0x00, 0x01, 0x00, 0x02] ∧ cells t [0x0400] = [0x00] ∧
      transactions t =
        [(false, 0x0200, 0xDE), (false, 0x0201, 0xFF), (false, 0x0202, 0x03), (false, 0x0300, 0x00), (false, 0x0400, 0x01), (true, 0x0400, 0x01), (true, 0x0400, 0x00)] := by
  decide

/-- 95_test_vectors.md V56: ROR abx. -/
theorem test_V56 :
    let t := exec .rorAbx (start 0x0200 0xFD 0x00 0x02 0x00 0x01 [(0x0200, 0x7E), (0x0201, 0x00), (0x0202, 0x03), (0x0302, 0x02)])
    registers t = [0x0203, 0xFD, 0x00, 0x02, 0x00, 0x80] ∧ cells t [0x0302] = [0x81] ∧
      transactions t =
        [(false, 0x0200, 0x7E), (false, 0x0201, 0x00), (false, 0x0202, 0x03), (false, 0x0302, 0x02), (false, 0x0302, 0x02), (true, 0x0302, 0x02), (true, 0x0302, 0x81)] := by
  decide

/-- 95_test_vectors.md V57: DEC zpx. -/
theorem test_V57 :
    let t := exec .decZpx (start 0x0200 0xFD 0x00 0x02 0x00 0x00 [(0x0200, 0xD6), (0x0201, 0xFF), (0x0001, 0x00)])
    registers t = [0x0202, 0xFD, 0x00, 0x02, 0x00, 0x80] ∧ cells t [0x0001] = [0xFF] ∧
      transactions t =
        [(false, 0x0200, 0xD6), (false, 0x0201, 0xFF), (false, 0x00FF, 0x00), (false, 0x0001, 0x00), (true, 0x0001, 0x00), (true, 0x0001, 0xFF)] := by
  decide

/-- 95_test_vectors.md V58: INX imp. -/
theorem test_V58 :
    let t := exec .inx (start 0x0200 0xFD 0x00 0xFF 0x00 0x00 [(0x0200, 0xE8)])
    registers t = [0x0201, 0xFD, 0x00, 0x00, 0x00, 0x02] ∧
      transactions t =
        [(false, 0x0200, 0xE8), (false, 0x0201, 0x00)] := by
  decide

/-- 95_test_vectors.md V59: INY imp. -/
theorem test_V59 :
    let t := exec .iny (start 0x0200 0xFD 0x00 0x00 0x7F 0x00 [(0x0200, 0xC8)])
    registers t = [0x0201, 0xFD, 0x00, 0x00, 0x80, 0x80] ∧
      transactions t =
        [(false, 0x0200, 0xC8), (false, 0x0201, 0x00)] := by
  decide

/-- 95_test_vectors.md V60: DEX imp. -/
theorem test_V60 :
    let t := exec .dex (start 0x0200 0xFD 0x00 0x00 0x00 0x00 [(0x0200, 0xCA)])
    registers t = [0x0201, 0xFD, 0x00, 0xFF, 0x00, 0x80] ∧
      transactions t =
        [(false, 0x0200, 0xCA), (false, 0x0201, 0x00)] := by
  decide

/-- 95_test_vectors.md V61: DEY imp. -/
theorem test_V61 :
    let t := exec .dey (start 0x0200 0xFD 0x00 0x00 0x01 0x00 [(0x0200, 0x88)])
    registers t = [0x0201, 0xFD, 0x00, 0x00, 0x00, 0x02] ∧
      transactions t =
        [(false, 0x0200, 0x88), (false, 0x0201, 0x00)] := by
  decide

/-- 95_test_vectors.md V62: TAX imp. -/
theorem test_V62 :
    let t := exec .tax (start 0x0200 0xFD 0x80 0x00 0x00 0x00 [(0x0200, 0xAA)])
    registers t = [0x0201, 0xFD, 0x80, 0x80, 0x00, 0x80] ∧
      transactions t =
        [(false, 0x0200, 0xAA), (false, 0x0201, 0x00)] := by
  decide

/-- 95_test_vectors.md V63: TAY imp. -/
theorem test_V63 :
    let t := exec .tay (start 0x0200 0xFD 0x00 0x00 0x00 0x00 [(0x0200, 0xA8)])
    registers t = [0x0201, 0xFD, 0x00, 0x00, 0x00, 0x02] ∧
      transactions t =
        [(false, 0x0200, 0xA8), (false, 0x0201, 0x00)] := by
  decide

/-- 95_test_vectors.md V64: TXA imp. -/
theorem test_V64 :
    let t := exec .txa (start 0x0200 0xFD 0x00 0x01 0x00 0x00 [(0x0200, 0x8A)])
    registers t = [0x0201, 0xFD, 0x01, 0x01, 0x00, 0x00] ∧
      transactions t =
        [(false, 0x0200, 0x8A), (false, 0x0201, 0x00)] := by
  decide

/-- 95_test_vectors.md V65: TYA imp. -/
theorem test_V65 :
    let t := exec .tya (start 0x0200 0xFD 0x00 0x00 0x90 0x00 [(0x0200, 0x98)])
    registers t = [0x0201, 0xFD, 0x90, 0x00, 0x90, 0x80] ∧
      transactions t =
        [(false, 0x0200, 0x98), (false, 0x0201, 0x00)] := by
  decide

/-- 95_test_vectors.md V66: TSX imp. -/
theorem test_V66 :
    let t := exec .tsx (start 0x0200 0x00 0x00 0x00 0x00 0x00 [(0x0200, 0xBA)])
    registers t = [0x0201, 0x00, 0x00, 0x00, 0x00, 0x02] ∧
      transactions t =
        [(false, 0x0200, 0xBA), (false, 0x0201, 0x00)] := by
  decide

/-- 95_test_vectors.md V67: TXS imp. -/
theorem test_V67 :
    let t := exec .txs (start 0x0200 0xFD 0x00 0x00 0x00 0x80 [(0x0200, 0x9A)])
    registers t = [0x0201, 0x00, 0x00, 0x00, 0x00, 0x80] ∧
      transactions t =
        [(false, 0x0200, 0x9A), (false, 0x0201, 0x00)] := by
  decide

/-- 95_test_vectors.md V68: CLC imp. -/
theorem test_V68 :
    let t := exec .clc (start 0x0200 0xFD 0x00 0x00 0x00 0x4D [(0x0200, 0x18)])
    registers t = [0x0201, 0xFD, 0x00, 0x00, 0x00, 0x4C] ∧
      transactions t =
        [(false, 0x0200, 0x18), (false, 0x0201, 0x00)] := by
  decide

/-- 95_test_vectors.md V69: SEC imp. -/
theorem test_V69 :
    let t := exec .sec (start 0x0200 0xFD 0x00 0x00 0x00 0x00 [(0x0200, 0x38)])
    registers t = [0x0201, 0xFD, 0x00, 0x00, 0x00, 0x01] ∧
      transactions t =
        [(false, 0x0200, 0x38), (false, 0x0201, 0x00)] := by
  decide

/-- 95_test_vectors.md V70: CLI imp. -/
theorem test_V70 :
    let t := exec .cli (start 0x0200 0xFD 0x00 0x00 0x00 0x4D [(0x0200, 0x58)])
    registers t = [0x0201, 0xFD, 0x00, 0x00, 0x00, 0x49] ∧
      transactions t =
        [(false, 0x0200, 0x58), (false, 0x0201, 0x00)] := by
  decide

/-- 95_test_vectors.md V71: SEI imp. -/
theorem test_V71 :
    let t := exec .sei (start 0x0200 0xFD 0x00 0x00 0x00 0x00 [(0x0200, 0x78)])
    registers t = [0x0201, 0xFD, 0x00, 0x00, 0x00, 0x04] ∧
      transactions t =
        [(false, 0x0200, 0x78), (false, 0x0201, 0x00)] := by
  decide

/-- 95_test_vectors.md V72: CLD imp. -/
theorem test_V72 :
    let t := exec .cld (start 0x0200 0xFD 0x00 0x00 0x00 0x4D [(0x0200, 0xD8)])
    registers t = [0x0201, 0xFD, 0x00, 0x00, 0x00, 0x45] ∧
      transactions t =
        [(false, 0x0200, 0xD8), (false, 0x0201, 0x00)] := by
  decide

/-- 95_test_vectors.md V73: SED imp. -/
theorem test_V73 :
    let t := exec .sed (start 0x0200 0xFD 0x00 0x00 0x00 0x00 [(0x0200, 0xF8)])
    registers t = [0x0201, 0xFD, 0x00, 0x00, 0x00, 0x08] ∧
      transactions t =
        [(false, 0x0200, 0xF8), (false, 0x0201, 0x00)] := by
  decide

/-- 95_test_vectors.md V74: CLV imp. -/
theorem test_V74 :
    let t := exec .clv (start 0x0200 0xFD 0x00 0x00 0x00 0x4D [(0x0200, 0xB8)])
    registers t = [0x0201, 0xFD, 0x00, 0x00, 0x00, 0x0D] ∧
      transactions t =
        [(false, 0x0200, 0xB8), (false, 0x0201, 0x00)] := by
  decide

/-- 95_test_vectors.md V78: NOP imp. -/
theorem test_V78 :
    let t := exec .nop (start 0x0200 0xFD 0x00 0x00 0x00 0xC3 [(0x0200, 0xEA)])
    registers t = [0x0201, 0xFD, 0x00, 0x00, 0x00, 0xC3] ∧
      transactions t =
        [(false, 0x0200, 0xEA), (false, 0x0201, 0x00)] := by
  decide

/-- 95_test_vectors.md V80: BNE rel. -/
theorem test_V80 :
    let t := exec .bne (start 0x1000 0xFD 0x00 0x00 0x00 0x00 [(0x1000, 0xD0), (0x1001, 0x05)])
    registers t = [0x1007, 0xFD, 0x00, 0x00, 0x00, 0x00] ∧
      transactions t =
        [(false, 0x1000, 0xD0), (false, 0x1001, 0x05), (false, 0x1002, 0x00)] := by
  decide

/-- 95_test_vectors.md V82: BNE rel. -/
theorem test_V82 :
    let t := exec .bne (start 0x10FD 0xFD 0x00 0x00 0x00 0x00 [(0x10FD, 0xD0), (0x10FE, 0x05)])
    registers t = [0x1104, 0xFD, 0x00, 0x00, 0x00, 0x00] ∧
      transactions t =
        [(false, 0x10FD, 0xD0), (false, 0x10FE, 0x05), (false, 0x10FF, 0x00), (false, 0x1004, 0x00)] := by
  decide

/-- 95_test_vectors.md V85: BEQ rel. -/
theorem test_V85 :
    let t := exec .beq (start 0x0200 0xFD 0x00 0x00 0x00 0x02 [(0x0200, 0xF0), (0x0201, 0xFE)])
    registers t = [0x0200, 0xFD, 0x00, 0x00, 0x00, 0x02] ∧
      transactions t =
        [(false, 0x0200, 0xF0), (false, 0x0201, 0xFE), (false, 0x0202, 0x00)] := by
  decide

/-- 95_test_vectors.md V86: BPL rel. -/
theorem test_V86 :
    let t := exec .bpl (start 0x0200 0xFD 0x00 0x00 0x00 0x00 [(0x0200, 0x10), (0x0201, 0x7F)])
    registers t = [0x0281, 0xFD, 0x00, 0x00, 0x00, 0x00] ∧ (transactions t).length = 3 := by
  decide

/-- 95_test_vectors.md V87: BMI rel. -/
theorem test_V87 :
    let t := exec .bmi (start 0x0280 0xFD 0x00 0x00 0x00 0x80 [(0x0280, 0x30), (0x0281, 0x80)])
    registers t = [0x0202, 0xFD, 0x00, 0x00, 0x00, 0x80] ∧ (transactions t).length = 3 := by
  decide

/-- 95_test_vectors.md V88: BVC rel. -/
theorem test_V88 :
    let t := exec .bvc (start 0x0200 0xFD 0x00 0x00 0x00 0x40 [(0x0200, 0x50), (0x0201, 0x10)])
    registers t = [0x0202, 0xFD, 0x00, 0x00, 0x00, 0x40] ∧ (transactions t).length = 2 := by
  decide

/-- 95_test_vectors.md V89: BVS rel. -/
theorem test_V89 :
    let t := exec .bvs (start 0x0200 0xFD 0x00 0x00 0x00 0x40 [(0x0200, 0x70), (0x0201, 0x10)])
    registers t = [0x0212, 0xFD, 0x00, 0x00, 0x00, 0x40] ∧ (transactions t).length = 3 := by
  decide

/-- 95_test_vectors.md V90: BCC rel. -/
theorem test_V90 :
    let t := exec .bcc (start 0x0200 0xFD 0x00 0x00 0x00 0x00 [(0x0200, 0x90), (0x0201, 0x10)])
    registers t = [0x0212, 0xFD, 0x00, 0x00, 0x00, 0x00] ∧ (transactions t).length = 3 := by
  decide

/-- 95_test_vectors.md V91: BCS rel. -/
theorem test_V91 :
    let t := exec .bcs (start 0x0200 0xFD 0x00 0x00 0x00 0x00 [(0x0200, 0xB0), (0x0201, 0x10)])
    registers t = [0x0202, 0xFD, 0x00, 0x00, 0x00, 0x00] ∧ (transactions t).length = 2 := by
  decide

/-- 95_test_vectors.md V93: PHA imp. -/
theorem test_V93 :
    let t := exec .pha (start 0x0200 0x00 0x42 0x00 0x00 0x00 [(0x0200, 0x48)])
    registers t = [0x0201, 0xFF, 0x42, 0x00, 0x00, 0x00] ∧ cells t [0x0100] = [0x42] ∧
      transactions t =
        [(false, 0x0200, 0x48), (false, 0x0201, 0x00), (true, 0x0100, 0x42)] := by
  decide

/-- 95_test_vectors.md V95: PHP imp. -/
theorem test_V95 :
    let t := exec .php (start 0x0200 0xFF 0x00 0x00 0x00 0xC3 [(0x0200, 0x08)])
    registers t = [0x0201, 0xFE, 0x00, 0x00, 0x00, 0xC3] ∧ cells t [0x01FF] = [0xF3] ∧
      transactions t =
        [(false, 0x0200, 0x08), (false, 0x0201, 0x00), (true, 0x01FF, 0xF3)] := by
  decide

/-- 95_test_vectors.md V96: PLA imp. -/
theorem test_V96 :
    let t := exec .pla (start 0x0200 0xFF 0x00 0x00 0x00 0x00 [(0x0200, 0x68), (0x0100, 0x80)])
    registers t = [0x0201, 0x00, 0x80, 0x00, 0x00, 0x80] ∧
      transactions t =
        [(false, 0x0200, 0x68), (false, 0x0201, 0x00), (false, 0x01FF, 0x00), (false, 0x0100, 0x80)] := by
  decide

/-- 95_test_vectors.md V97: PLP imp. -/
theorem test_V97 :
    let t := exec .plp (start 0x0200 0xFE 0x00 0x00 0x00 0x00 [(0x0200, 0x28), (0x01FF, 0xFF)])
    registers t = [0x0201, 0xFF, 0x00, 0x00, 0x00, 0xEF] ∧
      transactions t =
        [(false, 0x0200, 0x28), (false, 0x0201, 0x00), (false, 0x01FE, 0x00), (false, 0x01FF, 0xFF)] := by
  decide

/-- 95_test_vectors.md V98: PLP imp. -/
theorem test_V98 :
    let t := exec .plp (start 0x0200 0xFE 0x00 0x00 0x00 0xFF [(0x0200, 0x28), (0x01FF, 0x00)])
    registers t = [0x0201, 0xFF, 0x00, 0x00, 0x00, 0x20] ∧
      transactions t =
        [(false, 0x0200, 0x28), (false, 0x0201, 0x00), (false, 0x01FE, 0x00), (false, 0x01FF, 0x00)] := by
  decide

/-- 95_test_vectors.md V100: JMP abs. -/
theorem test_V100 :
    let t := exec .jmpAbs (start 0x0200 0xFD 0x00 0x00 0x00 0x00 [(0x0200, 0x4C), (0x0201, 0x34), (0x0202, 0x12)])
    registers t = [0x1234, 0xFD, 0x00, 0x00, 0x00, 0x00] ∧
      transactions t =
        [(false, 0x0200, 0x4C), (false, 0x0201, 0x34), (false, 0x0202, 0x12)] := by
  decide

/-- 95_test_vectors.md V101: JMP ind. -/
theorem test_V101 :
    let t := exec .jmpInd (start 0x0200 0xFD 0x00 0x00 0x00 0x00 [(0x0200, 0x6C), (0x0201, 0xFF), (0x0202, 0x10), (0x10FF, 0x34), (0x1000, 0x12), (0x1100, 0x56)])
    registers t = [0x1234, 0xFD, 0x00, 0x00, 0x00, 0x00] ∧
      transactions t =
        [(false, 0x0200, 0x6C), (false, 0x0201, 0xFF), (false, 0x0202, 0x10), (false, 0x10FF, 0x34), (false, 0x1000, 0x12)] := by
  decide

/-- 95_test_vectors.md V103: JSR abs. -/
theorem test_V103 :
    let t := exec .jsrAbs (start 0x0200 0xFF 0x00 0x00 0x00 0x00 [(0x0200, 0x20), (0x0201, 0x34), (0x0202, 0x12)])
    registers t = [0x1234, 0xFD, 0x00, 0x00, 0x00, 0x00] ∧ cells t [0x01FF, 0x01FE] = [0x02, 0x02] ∧
      transactions t =
        [(false, 0x0200, 0x20), (false, 0x0201, 0x34), (false, 0x01FF, 0x00), (true, 0x01FF, 0x02), (true, 0x01FE, 0x02), (false, 0x0202, 0x12)] := by
  decide

/-- 95_test_vectors.md V104: JSR abs. -/
theorem test_V104 :
    let t := exec .jsrAbs (start 0x0200 0x00 0x00 0x00 0x00 0x00 [(0x0200, 0x20), (0x0201, 0x34), (0x0202, 0x12)])
    registers t = [0x1234, 0xFE, 0x00, 0x00, 0x00, 0x00] ∧ cells t [0x0100, 0x01FF] = [0x02, 0x02] ∧
      transactions t =
        [(false, 0x0200, 0x20), (false, 0x0201, 0x34), (false, 0x0100, 0x00), (true, 0x0100, 0x02), (true, 0x01FF, 0x02), (false, 0x0202, 0x12)] := by
  decide

/-- 95_test_vectors.md V105: RTS imp. -/
theorem test_V105 :
    let t := exec .rts (start 0x1234 0xFD 0x00 0x00 0x00 0x00 [(0x1234, 0x60), (0x01FE, 0x02), (0x01FF, 0x02)])
    registers t = [0x0203, 0xFF, 0x00, 0x00, 0x00, 0x00] ∧
      transactions t =
        [(false, 0x1234, 0x60), (false, 0x1235, 0x00), (false, 0x01FD, 0x00), (false, 0x01FE, 0x02), (false, 0x01FF, 0x02), (false, 0x0202, 0x00)] := by
  decide

/-- 95_test_vectors.md V106: RTS imp. -/
theorem test_V106 :
    let t := exec .rts (start 0x1234 0xFE 0x00 0x00 0x00 0x00 [(0x1234, 0x60), (0x01FF, 0xFF), (0x0100, 0xFF)])
    registers t = [0x0000, 0x00, 0x00, 0x00, 0x00, 0x00] ∧
      transactions t =
        [(false, 0x1234, 0x60), (false, 0x1235, 0x00), (false, 0x01FE, 0x00), (false, 0x01FF, 0xFF), (false, 0x0100, 0xFF), (false, 0xFFFF, 0x00)] := by
  decide

/-- 95_test_vectors.md V107: BRK imp. -/
theorem test_V107 :
    let t := exec .brk (start 0x0300 0xFF 0x00 0x00 0x00 0x00 [(0x0300, 0x00), (0xFFFE, 0x00), (0xFFFF, 0x04)])
    registers t = [0x0400, 0xFC, 0x00, 0x00, 0x00, 0x04] ∧ cells t [0x01FF, 0x01FE, 0x01FD] = [0x03, 0x02, 0x30] ∧
      transactions t =
        [(false, 0x0300, 0x00), (false, 0x0301, 0x00), (true, 0x01FF, 0x03), (true, 0x01FE, 0x02), (true, 0x01FD, 0x30), (false, 0xFFFE, 0x00), (false, 0xFFFF, 0x04)] := by
  decide

/-- 95_test_vectors.md V108: BRK imp. -/
theorem test_V108 :
    let t := exec .brk (start 0x0300 0xFF 0x00 0x00 0x00 0xCB [(0x0300, 0x00), (0xFFFE, 0x00), (0xFFFF, 0x04)])
    registers t = [0x0400, 0xFC, 0x00, 0x00, 0x00, 0xCF] ∧ cells t [0x01FF, 0x01FE, 0x01FD] = [0x03, 0x02, 0xFB] ∧
      transactions t =
        [(false, 0x0300, 0x00), (false, 0x0301, 0x00), (true, 0x01FF, 0x03), (true, 0x01FE, 0x02), (true, 0x01FD, 0xFB), (false, 0xFFFE, 0x00), (false, 0xFFFF, 0x04)] := by
  decide

/-- 95_test_vectors.md V109: RTI imp. -/
theorem test_V109 :
    let t := exec .rti (start 0x0400 0xFC 0x00 0x00 0x00 0x04 [(0x0400, 0x40), (0x01FD, 0x30), (0x01FE, 0x02), (0x01FF, 0x03)])
    registers t = [0x0302, 0xFF, 0x00, 0x00, 0x00, 0x20] ∧
      transactions t =
        [(false, 0x0400, 0x40), (false, 0x0401, 0x00), (false, 0x01FC, 0x00), (false, 0x01FD, 0x30), (false, 0x01FE, 0x02), (false, 0x01FF, 0x03)] := by
  decide

/-- 95_test_vectors.md T4, V26 to V32: A and P after a decimal add. -/
theorem test_decimal_add :
    [adcDecimal 0x09#8 0x01#8 false, adcDecimal 0x99#8 0x01#8 false, adcDecimal 0x58#8 0x46#8 true,
        adcDecimal 0x12#8 0x34#8 false, adcDecimal 0x81#8 0x92#8 false, adcDecimal 0x79#8 0x00#8 true,
        adcDecimal 0x0F#8 0x0F#8 false].map (fun r => (r.value.toNat, (setArith 0x08#8 r).toNat)) =
      [(0x10, 0x08), (0x00, 0x89), (0x05, 0xC9), (0x46, 0x08), (0x73, 0x49), (0x80, 0xC8), (0x14, 0x08)] := by
  decide

/-- 95_test_vectors.md T5, V39a to V39e: A and P after a decimal subtract. -/
theorem test_decimal_subtract :
    [sbcDecimal 0x00#8 0x01#8 true, sbcDecimal 0x46#8 0x12#8 true, sbcDecimal 0x40#8 0x13#8 true,
        sbcDecimal 0x32#8 0x02#8 false, sbcDecimal 0x12#8 0x21#8 true].map
          (fun r => (r.value.toNat, (setArith 0x08#8 r).toNat)) =
      [(0x99, 0x88), (0x34, 0x09), (0x27, 0x09), (0x29, 0x09), (0x91, 0x88)] := by
  decide

/-- 95_test_vectors.md V28 and V39c: D selects the decimal results under `PARAM_DECIMAL = nmos`. -/
theorem test_decimal_selected :
    registers (exec .adcImm (start 0x0200 0xFD 0x58 0 0 0x09 [(0x0200, 0x69), (0x0201, 0x46)])) =
        [0x0202, 0xFD, 0x05, 0, 0, 0xC9] ∧
      registers (exec .sbcImm (start 0x0200 0xFD 0x40 0 0 0x09 [(0x0200, 0xE9), (0x0201, 0x13)])) =
        [0x0202, 0xFD, 0x27, 0, 0, 0x09] := by
  decide

/-! ### Single clock cycles -/

/-- PC, the pending address, its direction and Y after one step. -/
def stepView : Host.Outcome State Fault Refusal → List Nat
  | .next t => [t.pc.toNat, t.bus.address.toNat, t.bus.isWrite.toNat, t.y.toNat]
  | .fault _ => []
  | .refused _ => []

/-- 95_test_vectors.md X1: NOP from reset, after one call and after two. -/
theorem test_X1 :
    stepView (step { State.reset with mem := [(0, 0xEA#8), (1, 0xEA#8)] }) = [0x0001, 0x0001, 0, 0] ∧
      stepView (runSteps 2 { State.reset with mem := [(0, 0xEA#8), (1, 0xEA#8)] }) = [0x0001, 0x0001, 0, 0] := by
  decide

/-- 95_test_vectors.md X2: LDY immediate from reset. -/
theorem test_X2 :
    stepView (runSteps 2 { State.reset with mem := [(0, 0xA0#8), (1, 0x34#8)] }) = [0x0002, 0x0002, 0, 0x34] := by
  decide

/-- 95_test_vectors.md V110: an unknown opcode raises the sticky fault, and the next step stops. -/
theorem test_V110 :
    registers (step (start 0x0200 0xFD 0 0 0 0 [(0x0200, 0x02)])) = [0x0200, 0xFD, 0, 0, 0, 0] ∧
      runSteps 2 (start 0x0200 0xFD 0 0 0 0 [(0x0200, 0x02)]) = .fault (.unknownOpcode 0x02#8) :=
  ⟨by decide, rfl⟩

/-- The next step runs a placed instruction: its first call reads the byte after the opcode. -/
theorem test_withFetchWord :
    stepView (step (State.reset.withFetchWord 8 0xEA)) = [0x0001, 0x0001, 0, 0] ∧
      stepView (runSteps 2 (State.reset.withFetchWord 16 0x34A0)) = [0x0002, 0x0002, 0, 0x34] := by
  decide

/-! ### Witnesses: a state that meets the hypotheses of each statement -/

/-- A launch state over memory that holds a NOP at 0x0200. -/
def demo : State := start 0x0200 0xFD 0x12 0x34 0x56 0x81 [(0x0200, 0xEA), (0x0201, 0x05), (0x0202, 0x12)]

/-- `demo` is at an instruction boundary over a canonical memory: the hypotheses of EveryInstructionCompletes,
CycleCountsAreTheDocumentedOnes, LoadsSetRegisterNAndZ (with the row of LDA immediate), the logic, compare, BIT, shift,
increment, transfer, flag and NOP statements (with any row of their lists), TxsSetsTheStackPointerAndNoFlag,
PlaPullsTheAccumulator, PlpPullsTheStatus, JmpLoadsPc, RtsPullsTheReturnAddress and RtiRestoresStatusAndPc; and, with
the canonical memory, those of StoresWriteTheRegisterAtTheEffectiveAddress, ReadModifyWriteStoresTwice,
PhaPushesTheAccumulator, PhpPushesTheStatusWithBitsFiveAndFourSet, JsrPushesTheReturnAddress, BrkTakesTheTrap,
BrkThenRtiResumes, JsrThenRtsReturns and PhpThenPlpRestoresTheFlags. -/
theorem witness_boundary : AtBoundary demo ∧ demo.mem.wf = true := by decide

theorem witness_reset_boundary : AtBoundary State.reset ∧ State.reset.mem.wf = true := by decide

/-- The invariant holds of `demo`. -/
theorem witness_inv : Inv demo where
  memory := by decide
  yielded := rfl
  table := .inl ⟨rfl, rfl⟩
  cursor := Nat.le_refl _
  fits := ⟨rfl, rfl, rfl, rfl⟩
  faulted := by decide

theorem witness_EncodedInstructionDecodes : Insn.wf ⟨.jmpAbs, .addr 0xFFFF#16⟩ = true := rfl

theorem witness_DecodedBytesAreTheEncoding :
    decode [0xD0#8, 0x80#8, 0xFF#8] = .ok (⟨.bne, .off8 0x80#8⟩, [0xFF#8]) := rfl

theorem witness_EveryEntryIsWellFormed : table 0xA9#8 = some ⟨.lda, .imm, seqLdaImm⟩ := by decide

theorem witness_StepsRunTheDecodedInstruction : AtBoundary demo ∧
    decode [demo.mem.at demo.pc, demo.mem.at (demo.pc + 1#16), demo.mem.at (demo.pc + 2#16)] =
      .ok (⟨.nop, .none⟩, [0x05#8, 0x12#8]) :=
  ⟨by decide, rfl⟩

/-- A state with a write pending. -/
def writing : State := { demo with bus := { address := 0xFFFF#16, data := 0x00#8, isWrite := true } }

theorem witness_StepServicesThePendingTransaction :
    (demo.mem.wf = true ∧ demo.bus.isWrite = false ∧ ∃ t, step demo = .next t) ∧
      (writing.mem.wf = true ∧ writing.bus.isWrite = true ∧ ∃ t, step writing = .next t) :=
  ⟨⟨by decide, rfl, _, rfl⟩, by decide, rfl, _, rfl⟩

theorem witness_ReadRequestLeavesTheDataByte : (cycle demo).bus.isWrite = false := by decide

theorem witness_UnknownOpcodeIsAStickyFault :
    AtBoundary (start 0xFFFF 0 0 0 0 0 [(0xFFFF, 0xFF)]) ∧
      table ((start 0xFFFF 0 0 0 0 0 [(0xFFFF, 0xFF)]).mem.at (start 0xFFFF 0 0 0 0 0 [(0xFFFF, 0xFF)]).pc) = none := by
  decide

theorem witness_InvariantHoldsAtTheStart : Memory.wf [] = true ∧ Memory.wf [(0xFFFF, 0x01#8)] = true := by decide

theorem witness_StepKeepsTheInvariant : Inv demo ∧ ∃ t, step demo = .next t := ⟨witness_inv, _, rfl⟩

/-- A state with the sticky fault set. -/
def stuck : State := { demo with fault := true, faultOpcode := 0x02#8 }

theorem witness_OnlyTheUnknownOpcodeStopsTheMachine :
    (Inv demo ∧ demo.fault = false) ∧ (Inv stuck ∧ stuck.fault = true) :=
  ⟨⟨witness_inv, rfl⟩,
    { memory := by decide
      yielded := rfl
      table := .inl ⟨rfl, rfl⟩
      cursor := Nat.le_refl _
      fits := ⟨rfl, rfl, rfl, rfl⟩
      faulted := by decide }, rfl⟩

/-- The last index without a page crossing and the first with one, for a read, a store and a read-modify-write. -/
theorem witness_PageCrossingCostsOneReadOnlyInFastIndexing :
    let s (x : Nat) := start 0x0200 0xFD 0 x x 0 [(0x0200, 0xBD), (0x0201, 0x80), (0x0202, 0x12)]
    (∀ x ∈ [0x7F, 0x80],
      AtBoundary (s x) ∧ indexBase (Instr.mode .ldaAbx) (s x) = some (0x1280#16, BitVec.ofNat 8 x) ∧
        indexBase (Instr.mode .staAby) (s x) = some (0x1280#16, BitVec.ofNat 8 x) ∧
        indexBase (Instr.mode .incAbx) (s x) = some (0x1280#16, BitVec.ofNat 8 x)) ∧
      accessKind (Instr.mnemonic .ldaAbx) = some .read ∧ accessKind (Instr.mnemonic .staAby) = some .write ∧
      accessKind (Instr.mnemonic .incAbx) = some .rmw := by
  decide

theorem witness_RegistersChangeOnlyByTheirWriters :
    writesReg .a .inx = false ∧ ∃ t, exec .inx demo = .next t := ⟨by decide, _, rfl⟩

/-- LDA reads none of the four registers; TXS writes S without reading it. -/
theorem witness_RegistersInfluenceOnlyTheirReaders :
    (∀ r, readsReg r .ldaImm = false) ∧ (∃ t, exec .ldaImm demo = .next t) ∧
      readsReg .s .txs = false ∧ writesReg .s .txs = true ∧ ∃ t, exec .txs demo = .next t :=
  ⟨by intro r; cases r <;> decide, ⟨_, rfl⟩, by decide, by decide, _, rfl⟩

theorem witness_FlagsChangeOnlyByTheirWriters :
    Instr.mnemonic .inx ∉ flagWriters .c ∧ ∃ t, exec .inx demo = .next t := ⟨by decide, _, rfl⟩

theorem witness_StoredBitsFiveAndFour :
    (∃ t, exec .inx demo = .next t) ∧ (∃ t, exec .plp demo = .next t) ∧ ∃ t, exec .rti demo = .next t :=
  ⟨⟨_, rfl⟩, ⟨_, rfl⟩, _, rfl⟩

theorem witness_MemoryChangesOnlyByItsWriters :
    AtBoundary demo ∧ writesMemory .aslAcc = false ∧ ∃ t, exec .aslAcc demo = .next t := ⟨by decide, by decide, _, rfl⟩

theorem witness_InterruptDisableMasksNothing : ∃ t, exec .sei demo = .next t := ⟨_, rfl⟩

/-- D clear, and D set under `PARAM_DECIMAL = nmos`. -/
theorem witness_AddWithCarry_SubtractWithBorrow :
    (AtBoundary demo ∧ getFlag demo.p .d = false) ∧
      (AtBoundary { demo with p := 0x08#8 } ∧ getFlag 0x08#8 .d = true ∧ demo.decimal = .nmos) := by
  decide

theorem witness_OpenDecimalLeavesOnlyTheResultOpen :
    let s := { demo with p := 0x08#8, decimal := .openDraw }
    AtBoundary s ∧ getFlag s.p .d = true ∧ s.decimal = .openDraw := by
  decide

theorem witness_DecimalAddOfDigitsIsDecimalAddition : isBcd 0x99#8 = true ∧ isBcd 0x00#8 = true := by decide

theorem witness_DecimalSubtractOfDigitsIsDecimalSubtraction : isBcd 0x00#8 = true ∧ isBcd 0x99#8 = true := by decide

/-- BNE not taken, taken to the last byte of the next instruction's page, and taken one byte further. -/
theorem witness_BranchesTestTheirFlag :
    let s (p d : Nat) := start 0x0200 0xFD 0 0 0 p [(0x0200, 0xD0), (0x0201, d)]
    let u (d : Nat) := start 0x02E0 0xFD 0 0 0 0 [(0x02E0, 0xD0), (0x02E1, d)]
    (AtBoundary (s 0x02 0x05) ∧ getFlag (s 0x02 0x05).p .z ≠ false) ∧
      (AtBoundary (u 0x1D) ∧ getFlag (u 0x1D).p .z = false ∧
        hi8 ((u 0x1D).pc + 2#16 + sext16 (byte1 (u 0x1D))) = hi8 ((u 0x1D).pc + 2#16)) ∧
      (AtBoundary (u 0x1E) ∧ getFlag (u 0x1E).p .z = false ∧
        hi8 ((u 0x1E).pc + 2#16 + sext16 (byte1 (u 0x1E))) ≠ hi8 ((u 0x1E).pc + 2#16)) := by
  decide

end Sys2Proof.Machine
end

section
/-! A call commutes with any change of the memory behind the bus (00_scope.md R12, 20_memory.md R71): the fact for each
primitive, then for a call's micro-ops, for decode, and for the whole `cycle`. -/

namespace Sys2Proof.Machine

/-- The machine with another memory behind the bus and everything else as it was. -/
def State.withMem (s : State) (m : Memory) : State := { s with mem := m }

@[simp] theorem withMem_bt (s : State) (m : Memory) : (s.withMem m).bt = s.bt := rfl
@[simp] theorem withMem_yield (s : State) (m : Memory) : (s.withMem m).yield = s.yield := rfl
@[simp] theorem withMem_bus (s : State) (m : Memory) : (s.withMem m).bus = s.bus := rfl
@[simp] theorem withMem_decimal (s : State) (m : Memory) : (s.withMem m).decimal = s.decimal := rfl

theorem ite_withMem (c : Prop) [Decidable c] (s t : State) (m : Memory) :
    (if c then s else t).withMem m = if c then s.withMem m else t.withMem m :=
  apply_ite (State.withMem · m) c s t

/-! ### The primitives that branch on the state -/

theorem setReg_withMem (r : Reg) (b : Byte) (s : State) (m : Memory) :
    (s.withMem m).setReg r b = (s.setReg r b).withMem m := by
  cases r <;> rfl

theorem adcStep_withMem (s : State) (m : Memory) : adcStep (s.withMem m) = (adcStep s).withMem m := by
  cases hd : s.decimal with
  | nmos | openDraw =>
    simp only [adcStep, withMem_decimal, hd, ite_withMem]
    rfl

theorem sbcStep_withMem (s : State) (m : Memory) : sbcStep (s.withMem m) = (sbcStep s).withMem m := by
  cases hd : s.decimal with
  | nmos | openDraw =>
    simp only [sbcStep, withMem_decimal, hd, ite_withMem]
    rfl

theorem brTestStep_withMem (f : Flag) (b : Bool) (s : State) (m : Memory) :
    brTestStep f b (s.withMem m) = (brTestStep f b s).withMem m := by
  rw [brTestStep, brTestStep, ite_withMem]
  rfl

theorem brFixStep_withMem (s : State) (m : Memory) : brFixStep (s.withMem m) = (brFixStep s).withMem m := by
  simp only [brFixStep, withMem_bt]
  split
  · rfl
  · rw [ite_withMem]
    rfl

theorem brCommitStep_withMem (s : State) (m : Memory) :
    brCommitStep (s.withMem m) = (brCommitStep s).withMem m := by
  simp only [brCommitStep, withMem_bt]
  split <;> rfl

/-! ### Micro-ops, calls, decode -/

/-- R71: no primitive looks at memory. A primitive that does not branch on the state is a record update whose values
do not mention memory; the others are the lemmas above. -/
theorem runMicro_withMem (op : MicroOp) (s : State) (m : Memory) :
    runMicro op (s.withMem m) = (runMicro op s).withMem m := by
  cases op with
  | fixCross | fixRdIfCross =>
    rw [runMicro, runMicro, ite_withMem]
    rfl
  | vTo dst => exact setReg_withMem dst s.v s m
  | brTest f b => exact brTestStep_withMem f b s m
  | brFix => exact brFixStep_withMem s m
  | brCommit => exact brCommitStep_withMem s m
  | adcV => exact adcStep_withMem s m
  | sbcV => exact sbcStep_withMem s m
  | _ => rfl

theorem tick_withMem (op : MicroOp) (s : State) (m : Memory) : tick op (s.withMem m) = (tick op s).withMem m := by
  rw [tick, runMicro_withMem]
  rfl

theorem runCall_withMem (m : Memory) : ∀ (ops : List MicroOp) (s : State),
    runCall ops (s.withMem m) = (runCall ops s).withMem m
  | [], _ => rfl
  | op :: ops, s => by
    simp only [runCall, tick_withMem, withMem_yield]
    split
    · rfl
    · exact runCall_withMem m ops _

theorem callCore_withMem (s : State) (m : Memory) : callCore (s.withMem m) = (callCore s).withMem m :=
  runCall_withMem m s.rest s

theorem decodeCall_withMem (s : State) (m : Memory) : decodeCall (s.withMem m) = (decodeCall s).withMem m := by
  simp only [decodeCall, withMem_bus]
  split
  · rfl
  · next e _ => exact callCore_withMem (beginInstr s.bus.data e.seq s) m

theorem cycle_withMem (s : State) (m : Memory) : cycle (s.withMem m) = (cycle s).withMem m := by
  rw [cycle, cycle, ite_withMem, decodeCall_withMem, callCore_withMem]
  rfl

/-- Settles O10: every primitive, and so every call, commutes with a change of memory. -/
theorem cycleReachesMemoryOnlyThroughTheBus : Obligations.CycleReachesMemoryOnlyThroughTheBus :=
  cycle_withMem

end Sys2Proof.Machine
end

section
/-! The invariant of every run: it holds after reset and in every launch state, and every step keeps it (10_state.md
R45, R46; 42_decode_scheduler.md R240 to R249). -/

namespace Sys2Proof.Machine

/-! ### The start -/

/-- Settles O6: the fields of the reset state, one by one. -/
theorem resetIsZeroed : Obligations.ResetIsZeroed := by
  unfold Obligations.ResetIsZeroed
  decide

/-- R603: nothing is in progress in a launch state, and nothing is pending but the opcode fetch at PC. -/
theorem launch_inv (pc : Addr) (sp a x y p : Byte) {mem : Memory} (h : mem.wf = true) :
    Inv (launch pc sp a x y p mem) where
  memory := h
  yielded := rfl
  table := .inl ⟨rfl, rfl⟩
  cursor := Nat.le_refl 0
  fits := ⟨rfl, rfl, rfl, rfl⟩
  faulted := nofun

/-- Settles O13: the reset state is the launch state with everything zero and nothing in memory. -/
theorem invariantHoldsAtTheStart : Obligations.InvariantHoldsAtTheStart :=
  ⟨launch_inv 0x0000#16 0x00#8 0x00#8 0x00#8 0x00#8 0x00#8 (mem := []) rfl,
    fun pc sp a x y p _ h => launch_inv pc sp a x y p h⟩

/-! ### How the micro-ops of a sequence follow one another

The invariant speaks of the states between two calls. Within a call more can be pending: `ADD_IDX` sets `wc`, and a read
stands before the micro-op that consumes it. So the check below says of each micro-op what follows it, and in particular
where a call may end; every sequence of the table passes it. -/

/-- R159 to R161: `wc` is consumed before an index addition computes it again. -/
def carryAwaited : List MicroOp → Bool
  | [] => false
  | m :: ms => isFix m || (!isAddIdx m && carryAwaited ms)

/-- What follows a micro-op: after a yield some micro-op (R246 (2)), and right away the consumer of `wc` if it is
awaited; after an index addition the consumer of its `wc` (R246 (4)); right after `BR_TEST` and `BR_FIX`, what finishes
the branch (R246 (5)); right after a write, no latch (R246 (3)). -/
abbrev Linked (m : MicroOp) (ms : List MicroOp) : Prop :=
  (mayYield m = true → ms ≠ []) ∧
    (mayYield m = true → carryAwaited ms = true → ms.head?.any isFix = true) ∧
    (isAddIdx m = true → carryAwaited ms = true) ∧
    (isBrTest m = true ∨ m = .brFix → ms.head?.any isBrEnd = true) ∧
    (m = .wrW → ms.head?.any isLatch = false)

/-- Every micro-op of a sequence is followed as `Linked` says. -/
def chained : List MicroOp → Bool
  | [] => true
  | m :: ms => decide (Linked m ms) && chained ms

theorem chained_cons {m : MicroOp} {ms : List MicroOp} :
    chained (m :: ms) = true ↔ Linked m ms ∧ chained ms = true := by
  rw [chained, Bool.and_eq_true, decide_eq_true_iff]

theorem chained_drop : ∀ {ops : List MicroOp} (n : Nat), chained ops = true → chained (ops.drop n) = true
  | _, 0, h => h
  | [], _ + 1, h => h
  | _ :: _, n + 1, h => chained_drop n (chained_cons.mp h).2

theorem chained_seqOf (i : Instr) : chained (seqOf i) = true := by
  cases i <;> rfl

/-! ### What a micro-op leaves in the fields that must fit -/

/-- R159 to R161: only `ADD_IDX` sets `wc`, and its consumers clear it. -/
theorem tick_wc {m : MicroOp} {s : State} (h : (tick m s).wc = true) :
    isAddIdx m = true ∨ isFix m = false ∧ s.wc = true := by
  cases m with
  | addIdx r => exact .inl rfl
  | fixCross | fixRdIfCross => cases hc : s.wc <;> simp [tick, runMicro, hc] at h
  | vTo r => cases r <;> exact .inr ⟨rfl, h⟩
  | brTest | brFix | brCommit | adcV | sbcV =>
    refine .inr ⟨rfl, ?_⟩
    simp only [tick, runMicro, brTestStep, brFixStep, brCommitStep, adcStep, sbcStep] at h
    repeat' split at h
    all_goals exact h
  | _ => exact .inr ⟨rfl, h⟩

/-- R175 to R177: a target is pending only after `BR_TEST` and `BR_FIX`, or where it was before. -/
theorem tick_bt_pending {m : MicroOp} {s : State} (h : (tick m s).bt ≠ none) :
    (isBrTest m = true ∨ m = .brFix) ∨ s.bt ≠ none ∧ isBrEnd m = false := by
  cases m with
  | brTest => exact .inl (.inl rfl)
  | brFix => exact .inl (.inr rfl)
  | brCommit => cases hb : s.bt <;> simp [tick, runMicro, brCommitStep, hb] at h
  | _ =>
    rw [tick_bt _ s rfl] at h
    exact .inr ⟨h, rfl⟩

/-- R141: a micro-op that sets the yield flag is a yielding one. -/
theorem mayYield_of_tick {m : MicroOp} {s : State} (hs : s.yield = false) (h : (tick m s).yield = true) :
    mayYield m = true := by
  by_contra hm
  rw [tick_quiet m s (by simpa using hm), hs] at h
  cases h

/-- R145: the transaction that a yielding micro-op queues is a write only under `WR_W`. -/
theorem tick_isWrite {m : MicroOp} {s : State} (hs : s.yield = false) (hy : (tick m s).yield = true)
    (hw : (tick m s).bus.isWrite = true) : m = .wrW := by
  have hm := mayYield_of_tick hs hy
  cases m with
  | wrW => rfl
  | rdPc | rdPcInc | rdW => cases hw
  | fixRdIfCross => cases hc : s.wc <;> simp [tick, runMicro, hc, hs] at hy hw
  | brTest | brFix =>
    simp only [tick, runMicro, brTestStep, brFixStep] at hy hw
    repeat' split at hy
    all_goals simp_all
  | _ => cases hm

/-! ### A call -/

@[simp] theorem runCall_opcode : ∀ (ops : List MicroOp) (s : State), (runCall ops s).opcode = s.opcode
  | [], _ => rfl
  | m :: ms, s => by
    rw [runCall]
    split
    · simp
    · rw [runCall_opcode ms, tick_opcode]

@[simp] theorem rest_service (s : State) : (service s).rest = s.rest := by simp [State.rest]

theorem tick_rest {m : MicroOp} {ms : List MicroOp} {s : State} (h : s.rest = m :: ms) : (tick m s).rest = ms := by
  rw [State.rest, tick_seq, tick_advances, ← List.tail_drop, ← State.rest, h, List.tail_cons]

theorem cursor_lt_of_rest {m : MicroOp} {ms : List MicroOp} {s : State} (h : s.rest = m :: ms) :
    s.cursor < s.seq.length := by
  by_contra hc
  rw [State.rest, List.drop_eq_nil_of_le (by omega)] at h
  cases h

/-- What holds of the scratch registers between two micro-ops of a call, with `ops` still to run. -/
structure PendingFits (ops : List MicroOp) (s : State) : Prop where
  bt : s.bt ≠ none → ops.head?.any isBrEnd = true
  wc : s.wc = true → carryAwaited ops = true

theorem tick_pendingFits {m : MicroOp} {ms : List MicroOp} {s : State} (hl : Linked m ms)
    (h : PendingFits (m :: ms) s) : PendingFits ms (tick m s) := by
  obtain ⟨-, -, hcarry, hbranch, -⟩ := hl
  constructor
  · intro hb
    rcases tick_bt_pending hb with hm | ⟨hs, hm⟩
    · exact hbranch hm
    · cases hm.symm.trans (h.bt hs)
  · intro hw
    rcases tick_wc hw with hm | ⟨hm, hs⟩
    · exact hcarry hm
    · have := h.wc hs
      simp only [carryAwaited, hm, Bool.false_or, Bool.and_eq_true] at this
      exact this.2

/-- A state between two calls that fits has nothing else pending. -/
theorem pendingFits_of_nextFits {ops : List MicroOp} {s : State} (h : nextFits ops s) : PendingFits ops s := by
  cases ops with
  | nil =>
    obtain ⟨hb, hw, -, -⟩ := h
    exact ⟨fun e => absurd hb e, fun e => by simp [hw] at e⟩
  | cons m ms =>
    obtain ⟨hb, hw, -⟩ := h
    constructor
    · intro e
      by_contra hm
      exact e (hb (by simpa using hm))
    · intro e
      by_contra hm
      simp only [carryAwaited, Bool.or_eq_true, not_or, Bool.not_eq_true] at hm
      simp [hw hm.1] at e

/-- R244: the opcode fetch fits the end of a sequence. -/
theorem queueFetch_nextFits {s : State} (h : PendingFits [] s) : nextFits [] (queueFetch s) :=
  ⟨by_contra fun hb => by simpa using h.bt hb, by simpa [carryAwaited] using h.wc, rfl, rfl⟩

/-- R243: a call that ends at a yield leaves a state that fits the micro-op after it. -/
theorem clearYield_tick_nextFits {m : MicroOp} {ms : List MicroOp} {s : State} (hs : s.yield = false)
    (hy : (tick m s).yield = true) (hl : Linked m ms) (h : PendingFits (m :: ms) s) :
    nextFits ms (clearYield (tick m s)) := by
  obtain ⟨hbt, hwc⟩ := tick_pendingFits hl h
  obtain ⟨hmore, hconsumer, -, -, hlatch⟩ := hl
  have hm := mayYield_of_tick hs hy
  cases ms with
  | nil => exact absurd rfl (hmore hm)
  | cons n ns =>
    refine ⟨fun hn => ?_, fun hn => ?_, fun hn => ?_⟩
    · by_contra hb
      cases hn.symm.trans (hbt hb)
    · by_contra hw
      cases hn.symm.trans (hconsumer hm (hwc (by simpa using hw)))
    · by_contra hw
      cases hn.symm.trans (hlatch (tick_isWrite hs hy (by simpa using hw)))

/-- R243 to R245: a call leaves the cursor inside the sequence and a state that fits the next micro-op. -/
theorem runCall_fits : ∀ {ops : List MicroOp} {s : State}, s.rest = ops → s.cursor ≤ s.seq.length →
    s.yield = false → chained ops = true → PendingFits ops s →
    (runCall ops s).cursor ≤ (runCall ops s).seq.length ∧ nextFits (runCall ops s).rest (runCall ops s)
  | [], s, hr, hc, _, _, h => by
    have hr' : (queueFetch s).rest = [] := hr
    rw [runCall_nil, hr']
    exact ⟨hc, queueFetch_nextFits h⟩
  | m :: ms, s, hr, _, hs, hch, h => by
    obtain ⟨hl, hms⟩ := chained_cons.mp hch
    have hrest := tick_rest hr
    have hcur : (tick m s).cursor ≤ (tick m s).seq.length := by
      rw [tick_advances, tick_seq]
      exact cursor_lt_of_rest hr
    rw [runCall]
    split
    · next hy =>
      have hrest' : (clearYield (tick m s)).rest = ms := hrest
      rw [hrest']
      exact ⟨hcur, clearYield_tick_nextFits hs hy hl h⟩
    · next hy => exact runCall_fits hrest hcur (by simpa using hy) hms (tick_pendingFits hl h)

/-- R243 to R245: a call of an instruction in progress keeps the invariant. -/
theorem callCore_inv {s : State} {i : Instr} (hmem : s.mem.wf = true) (hy : s.yield = false) (hf : s.fault = false)
    (hop : s.opcode = i.opcode) (hseq : s.seq = seqOf i) (hc : s.cursor ≤ s.seq.length)
    (h : PendingFits s.rest s) : Inv (callCore s) := by
  have hch : chained s.rest = true := by
    rw [State.rest, hseq]
    exact chained_drop _ (chained_seqOf i)
  obtain ⟨hcur, hfits⟩ := runCall_fits rfl hc hy hch h
  exact {
    memory := by simpa [callCore] using hmem
    yielded := runCall_yield _ _
    table := .inr ⟨i, by simpa [callCore] using hop, by simpa [callCore] using hseq⟩
    cursor := hcur
    fits := hfits
    faulted := by simp [callCore, hf] }

/-! ### A step -/

/-- R240: what a step that answers a next state answers. -/
theorem step_next {s t : State} (h : step s = .next t) :
    s.fault = false ∧ s.yield = false ∧ s.cursor ≤ s.seq.length ∧ t = cycle (service s) := by
  rw [step, clockCycle] at h
  split at h
  · cases h
  · next hf =>
    split at h
    · cases h
    · next hd =>
      simp only [Bool.or_eq_true, decide_eq_true_eq, not_or, Bool.not_eq_true, Nat.not_lt] at hd
      cases h
      exact ⟨by simpa using hf, hd.1, hd.2, rfl⟩

/-- R109: a table entry is an instruction's, under that instruction's opcode. -/
theorem table_some {op : Byte} {e : Entry} (h : table op = some e) : ∃ i : Instr, op = i.opcode ∧ e.seq = seqOf i := by
  obtain ⟨i, hi, rfl⟩ := Option.map_eq_some_iff.mp h
  exact ⟨i, (opcode_of_decodeOpcode hi).symm, rfl⟩

/-- R109: an opcode without an entry decodes to no instruction. -/
theorem table_none {op : Byte} (h : table op = none) : decodeOpcode op = none :=
  Option.map_eq_none_iff.mp h

theorem rest_of_between {s : State} (h : BetweenInstructions s) : s.rest = [] :=
  List.drop_eq_nil_of_le (Nat.le_of_eq h.symm)

theorem nextFits_service {ops : List MicroOp} {s : State} (h : nextFits ops s) : nextFits ops (service s) := by
  cases ops <;> simpa [nextFits] using h

/-- R73: the caller's service keeps the invariant. -/
theorem service_inv {s : State} (h : Inv s) : Inv (service s) where
  memory := service_mem_wf h.memory
  yielded := by simpa using h.yielded
  table := by simpa using h.table
  cursor := by simpa using h.cursor
  fits := by
    rw [rest_service]
    exact nextFits_service h.fits
  faulted := by simpa [BetweenInstructions] using h.faulted

/-- R242: recording an unknown opcode between two instructions keeps the invariant. -/
theorem raiseUnknownOpcode_inv {s : State} {op : Byte} (h : Inv s) (hb : BetweenInstructions s)
    (hd : decodeOpcode op = none) : Inv (raiseUnknownOpcode op s) where
  memory := h.memory
  yielded := h.yielded
  table := h.table
  cursor := h.cursor
  fits := by
    have hf := h.fits
    rw [rest_of_between hb] at hf
    have hr : (raiseUnknownOpcode op s).rest = [] := rest_of_between hb
    rw [hr]
    exact hf
  faulted := fun _ => ⟨hb, hd⟩

/-- R241, R242: decode keeps the invariant. -/
theorem decodeCall_inv {s : State} (h : Inv s) (hf : s.fault = false) (hb : BetweenInstructions s) :
    Inv (decodeCall s) := by
  rw [decodeCall]
  split
  · next ht => exact raiseUnknownOpcode_inv h hb (table_none ht)
  · next e ht =>
    obtain ⟨i, hop, hseq⟩ := table_some ht
    have hfits := h.fits
    rw [rest_of_between hb] at hfits
    obtain ⟨hbt, -, -, -⟩ := hfits
    exact callCore_inv (i := i) h.memory h.yielded hf hop hseq (Nat.zero_le _)
      ⟨fun e => absurd hbt e, nofun⟩

/-- R240: in the middle of an instruction a call keeps the invariant. -/
theorem callCore_inv_middle {s : State} (h : Inv s) (hf : s.fault = false) (hb : ¬ BetweenInstructions s) :
    Inv (callCore s) := by
  rcases h.table with ⟨hseq, hc⟩ | ⟨i, hop, hseq⟩
  · exact absurd (by simp [BetweenInstructions, hseq, hc]) hb
  · exact callCore_inv h.memory h.yielded hf hop hseq h.cursor (pendingFits_of_nextFits h.fits)

/-- Settles O14: the caller's service keeps the invariant, and so does the call after it, between instructions and in
the middle of one. -/
theorem stepKeepsTheInvariant : Obligations.StepKeepsTheInvariant := by
  intro s t h hstep
  obtain ⟨hf, -, -, rfl⟩ := step_next hstep
  have hf' : (service s).fault = false := (service_fault s).trans hf
  rw [cycle]
  split
  · next hb => exact decodeCall_inv (service_inv h) hf' hb
  · next hb => exact callCore_inv_middle (service_inv h) hf' hb

end Sys2Proof.Machine
end

section
/-! The writers of the registers and of the flags (10_state.md R32 to R34, R36, R39, R42): what a whole instruction
leaves alone, from the micro-ops of its sequence. -/

namespace Sys2Proof.Machine

/-- What an instruction keeps: `f` is any part of the state that the service and decode leave alone, and the run of the
instruction's sequence too (R241, R243). -/
theorem exec_frame {α : Type} (f : State → α) (hserv : ∀ s, f (service s) = f s)
    (hbegin : ∀ op ops s, f (beginInstr op ops s) = f s) {i : Instr} {s t : State}
    (hrun : ∀ u, f (runToEnd (seqOf i) u) = f u) (h : exec i s = .next t) : f t = f s := by
  rw [exec_eq] at h
  obtain ⟨-, -, -, rfl⟩ := runInstruction_next h
  rw [hrun, hbegin, hserv]

/-! ### Registers -/

/-- R140: the micro-ops that write a register. -/
def writesMicroReg : Reg → MicroOp → Bool
  | .a => writesA
  | .x => writesX
  | .y => writesY
  | .s => writesS

theorem runToEnd_reg {r : Reg} {ops : List MicroOp} (h : ops.all (fun m => !writesMicroReg r m) = true) (s : State) :
    (runToEnd ops s).reg r = s.reg r := by
  cases r with
  | a => exact runToEnd_a s h
  | x => exact runToEnd_x s h
  | y => exact runToEnd_y s h
  | s => exact runToEnd_sp s h

/-- R32 to R34, R36: the sequence of an instruction that does not write a register holds no micro-op that does. -/
theorem seqOf_writesReg (r : Reg) (i : Instr) :
    (writesReg r i || (seqOf i).all fun m => !writesMicroReg r m) = true := by
  cases r <;> cases i <;> rfl

/-- Settles O19: no micro-op of the sequence writes the register. -/
theorem registersChangeOnlyByTheirWriters : Obligations.RegistersChangeOnlyByTheirWriters := by
  intro r i s t hw h
  have hops : (seqOf i).all (fun m => !writesMicroReg r m) = true := by simpa [hw] using seqOf_writesReg r i
  have hserv : ∀ u, (service u).reg r = u.reg r := by cases r <;> simp [State.reg]
  exact exec_frame (State.reg · r) hserv (by cases r <;> exact fun _ _ _ => rfl) (runToEnd_reg hops) h

/-! ### Flags, and bits 5 and 4 of P -/

/-- R42: the sequence of an instruction whose mnemonic does not write a flag holds no micro-op that does. -/
theorem seqOf_writesFlag (f : Flag) (i : Instr) :
    (decide (i.mnemonic ∈ flagWriters f) || (seqOf i).all fun m => !writesFlag f m) = true := by
  cases f <;> cases i <;> rfl

/-- Settles O21: no micro-op of the sequence writes the flag. -/
theorem flagsChangeOnlyByTheirWriters : Obligations.FlagsChangeOnlyByTheirWriters := by
  intro f i s t hw h
  have hops : (seqOf i).all (fun m => !writesFlag f m) = true := by simpa [hw] using seqOf_writesFlag f i
  exact exec_frame (fun u => getFlag u.p f) (by simp) (by simp) (runToEnd_flag · f hops) h

/-- R39: only PLP and RTI hold the micro-op that writes P whole. -/
theorem seqOf_writesP {i : Instr} (hplp : i ≠ .plp) (hrti : i ≠ .rti) :
    (seqOf i).all (fun m => !writesP m) = true := by
  cases i
  case plp => exact absurd rfl hplp
  case rti => exact absurd rfl hrti
  all_goals rfl

/-- R39, R167: after `P_FROM_V`, with no other whole-byte write behind it, bit 5 is 1 and bit 4 is 0. -/
theorem runToEnd_pFromV {post : List MicroOp} (h : post.all (fun m => !writesP m) = true) (s : State) :
    reservedBits (runToEnd (.pFromV :: post) s).p = 0x20#8 := by
  rw [runToEnd]
  split <;> rw [runToEnd_reservedBits _ h] <;> simp [tick, runMicro]

theorem exec_reservedBits_of_pFromV {i : Instr} {pre post : List MicroOp} (hseq : seqOf i = pre ++ .pFromV :: post)
    (hpost : post.all (fun m => !writesP m) = true) {s t : State} (h : exec i s = .next t) :
    reservedBits t.p = 0x20#8 := by
  rw [exec_eq] at h
  obtain ⟨-, -, -, rfl⟩ := runInstruction_next h
  rw [hseq, runToEnd_append, runToEnd_pFromV hpost]

/-- Settles O22: the only micro-op that writes bits 5 and 4 is `P_FROM_V`, which PLP and RTI hold once. -/
theorem storedBitsFiveAndFour : Obligations.StoredBitsFiveAndFour := by
  intro i s t h
  constructor
  · intro hplp hrti
    exact exec_frame (fun u => reservedBits u.p) (by simp) (by simp)
      (runToEnd_reservedBits · (seqOf_writesP hplp hrti)) h
  · rintro (rfl | rfl)
    · exact exec_reservedBits_of_pFromV (pre := composeImp ++ stkDummy ++ pull ++ [.ldV]) (post := []) rfl rfl h
    · exact exec_reservedBits_of_pFromV (pre := [.rdPc] ++ stkDummy ++ pull ++ [.ldV])
        (post := pull ++ [.ldV2] ++ pull ++ [.ldPc]) rfl rfl h

end Sys2Proof.Machine
end

section
/-! Non-interference (10_state.md R32 to R34, R36, R43): a change of the registers that no micro-op of an instruction
reads is either still there after the instruction, and nothing else differs, or overwritten. First for any such
change, then for another byte in one register, and for the I flag flipped. -/

namespace Sys2Proof.Machine

/-! ### A change of the registers -/

/-- A change of the register file: what becomes of each 8-bit register, and of P. -/
structure Change where
  reg : Reg → Byte → Byte
  p : Byte → Byte

/-- The machine with its registers changed and everything else as it was. -/
def Change.apply (g : Change) (s : State) : State :=
  { s with a := g.reg .a s.a, x := g.reg .x s.x, y := g.reg .y s.y, sp := g.reg .s s.sp, p := g.p s.p }

/-- A change of P that no flag but I can tell: the other five read the same, and a write of one of them commutes with
it. -/
structure OnlyI (p : Byte → Byte) : Prop where
  get : ∀ f b, f ≠ .i → getFlag (p b) f = getFlag b f
  set : ∀ f b v, f ≠ .i → setFlag (p b) f v = p (setFlag b f v)

theorem id_onlyI : OnlyI id where
  get _ _ _ := rfl
  set _ _ _ _ := rfl

/-- The register that `ADD_ZP` and `ADD_IDX` index by (R156, R159). -/
def indexReg : Index → Reg
  | .x => .x
  | .y => .y

/-- The register that a source reads, if it reads one (R164). -/
def sourceReg : Source → Option Reg
  | .a => some .a
  | .x => some .x
  | .y => some .y
  | .s => some .s
  | _ => none

/-- R142 to R192: the micro-ops that read a register. -/
def readsMicroReg (r : Reg) : MicroOp → Bool
  | .addZp k => indexReg k == r
  | .addIdx k => indexReg k == r
  | .spToW => .s == r
  | .incS => .s == r
  | .decS => .s == r
  | .vFrom src => sourceReg src == some r
  | .oraV => .a == r
  | .andV => .a == r
  | .eorV => .a == r
  | .adcV => .a == r
  | .sbcV => .a == r
  | .cmpV q => q == r
  | .bitV => .a == r
  | _ => false

/-- R165: the micro-op that writes a register without reading it. -/
def overwritesReg (r : Reg) : MicroOp → Bool
  | .vTo q => q == r
  | _ => false

/-- R164, R175: the micro-ops that read the I flag. -/
def readsI : MicroOp → Bool
  | .vFrom .pPush => true
  | .brTest .i _ => true
  | _ => false

/-- R167, R170: the micro-ops that write the I flag. -/
def overwritesI : MicroOp → Bool
  | .pFromV => true
  | .setF .i _ => true
  | _ => false

/-! ### What a micro-op makes of a change

The micro-ops that branch on the state, and those that combine registers, have a lemma of their own; a micro-op without
one is a record update that mentions no register. -/

theorem ite_apply (g : Change) (c : Prop) [Decidable c] (s t : State) :
    g.apply (if c then s else t) = if c then g.apply s else g.apply t :=
  apply_ite g.apply c s t

theorem service_apply (g : Change) (s : State) : service (g.apply s) = g.apply (service s) := by
  rw [service, service, ite_apply]
  rfl

@[simp] theorem apply_v (g : Change) (s : State) : (g.apply s).v = s.v := rfl
@[simp] theorem apply_bt (g : Change) (s : State) : (g.apply s).bt = s.bt := rfl
@[simp] theorem apply_yield (g : Change) (s : State) : (g.apply s).yield = s.yield := rfl
@[simp] theorem apply_decimal (g : Change) (s : State) : (g.apply s).decimal = s.decimal := rfl
@[simp] theorem apply_p (g : Change) (s : State) : (g.apply s).p = g.p s.p := rfl

@[simp] theorem apply_reg (g : Change) (r : Reg) (s : State) : (g.apply s).reg r = g.reg r (s.reg r) := by
  cases r <;> rfl

theorem index_apply {g : Change} {k : Index} (h : g.reg (indexReg k) = id) (s : State) :
    (g.apply s).index k = s.index k := by
  cases k with
  | x => exact congrFun h s.x
  | y => exact congrFun h s.y

theorem source_apply {g : Change} {src : Source} (h : ∀ r, sourceReg src = some r → g.reg r = id)
    (hp : src = .pPush → g.p = id) (s : State) : (g.apply s).source src = s.source src := by
  cases src with
  | a => exact congrFun (h .a rfl) s.a
  | x => exact congrFun (h .x rfl) s.x
  | y => exact congrFun (h .y rfl) s.y
  | s => exact congrFun (h .s rfl) s.sp
  | pch | pcl => rfl
  | pPush => exact congrArg pushedStatus (congrFun (hp rfl) s.p)

/-- R165: a register that the change leaves alone can be written before it or after it. -/
theorem setReg_apply {g : Change} {r : Reg} (h : g.reg r = id) (b : Byte) (s : State) :
    (g.apply s).setReg r b = g.apply (s.setReg r b) := by
  cases r <;> simp [State.setReg, Change.apply, h]

theorem brFixStep_apply (g : Change) (s : State) : brFixStep (g.apply s) = g.apply (brFixStep s) := by
  simp only [brFixStep, apply_bt]
  split
  · rfl
  · rw [ite_apply]
    rfl

theorem brCommitStep_apply (g : Change) (s : State) : brCommitStep (g.apply s) = g.apply (brCommitStep s) := by
  simp only [brCommitStep, apply_bt]
  split <;> rfl

theorem brTestStep_apply {g : Change} {f : Flag} {s : State} (hf : getFlag (g.p s.p) f = getFlag s.p f) (b : Bool) :
    brTestStep f b (g.apply s) = g.apply (brTestStep f b s) := by
  rw [brTestStep, brTestStep, ite_apply, apply_p, hf]
  rfl

/-- R180 to R185: a shift, a rotate, an increment or a decrement, from what becomes of its result and of P. -/
theorem shiftStep_apply {g : Change} {f : Byte → Byte → Byte × Byte}
    (hf : ∀ p b, f (g.p p) b = ((f p b).1, g.p (f p b).2)) (s : State) :
    shiftStep f (g.apply s) = g.apply (shiftStep f s) := by
  simp only [shiftStep, apply_p, apply_v, hf]
  rfl

section
variable {g : Change} (hp : OnlyI g.p)
include hp

theorem setNZ_apply (p r : Byte) : setNZ (g.p p) r = g.p (setNZ p r) := by
  simp [setNZ, hp.set]

theorem cmpFlags_apply (p r m : Byte) : cmpFlags (g.p p) r m = g.p (cmpFlags p r m) := by
  simp [cmpFlags, hp.set, setNZ_apply hp]

theorem runMicro_alu_apply {m : MicroOp} (h : m ∈ [MicroOp.aslV, .lsrV, .rolV, .rorV, .incV, .decV]) (s : State) :
    runMicro m (g.apply s) = g.apply (runMicro m s) := by
  simp only [List.mem_cons, List.not_mem_nil, or_false] at h
  rcases h with rfl | rfl | rfl | rfl | rfl | rfl <;>
    exact shiftStep_apply (fun p b => by
      simp [aslByte, lsrByte, rolByte, rorByte, incByte, decByte, hp.get, hp.set, setNZ_apply hp]) s

theorem logicStep_apply (ha : g.reg .a = id) (r : Byte) (s : State) :
    logicStep r (g.apply s) = g.apply (logicStep r s) := by
  simp [logicStep, Change.apply, ha, setNZ_apply hp]

theorem setAcc_apply (ha : g.reg .a = id) (r : Arith) (s : State) :
    (g.apply s).setAcc r = g.apply (s.setAcc r) := by
  simp [State.setAcc, Change.apply, setArith, hp.set, ha]

theorem drawDecimal_apply (ha : g.reg .a = id) (s : State) : drawDecimal (g.apply s) = g.apply (drawDecimal s) := by
  rw [drawDecimal, drawDecimal, setAcc_apply hp ha]
  rfl

theorem adcStep_apply (ha : g.reg .a = id) (s : State) : adcStep (g.apply s) = g.apply (adcStep s) := by
  have hs : (g.apply s).a = s.a := congrFun ha s.a
  cases hd : s.decimal with
  | nmos | openDraw =>
    simp [adcStep, drawDecimal_apply hp ha, hd, hs, hp.get, ite_apply, setAcc_apply hp ha]

theorem sbcStep_apply (ha : g.reg .a = id) (s : State) : sbcStep (g.apply s) = g.apply (sbcStep s) := by
  have hs : (g.apply s).a = s.a := congrFun ha s.a
  cases hd : s.decimal with
  | nmos | openDraw =>
    simp [sbcStep, drawDecimal_apply hp ha, hd, hs, hp.get, ite_apply, setAcc_apply hp ha]

/-- A micro-op carries a change along when the registers it reads or overwrites are left alone by the change, and so is
I if it reads or overwrites I. -/
theorem runMicro_apply {m : MicroOp} (hr : ∀ r, readsMicroReg r m || overwritesReg r m → g.reg r = id)
    (hi : readsI m || overwritesI m → g.p = id) (s : State) :
    runMicro m (g.apply s) = g.apply (runMicro m s) := by
  cases m with
  | addZp k | addIdx k =>
    simp only [runMicro, index_apply (hr (indexReg k) (by simp [readsMicroReg]))]
    rfl
  | fixCross | fixRdIfCross =>
    rw [runMicro, runMicro, ite_apply]
    rfl
  | spToW | incS | decS => simp [runMicro, Change.apply, hr .s rfl]
  | vFrom src =>
    rw [runMicro, source_apply (fun r h => hr r (by simp [readsMicroReg, h])) (fun h => hi (by simp [readsI, h]))]
    rfl
  | vTo q => exact setReg_apply (hr q (by simp [overwritesReg])) s.v s
  | pFromV => simp [runMicro, Change.apply, hi rfl]
  | nzV => simp [runMicro, Change.apply, setNZ_apply hp]
  | setF f b =>
    cases f with
    | i => simp [runMicro, Change.apply, hi rfl]
    | _ => simp [runMicro, Change.apply, hp.set]
  | brTest f b =>
    have hf : getFlag (g.p s.p) f = getFlag s.p f := by
      cases f with
      | i => simp [hi rfl]
      | _ => exact hp.get _ _ (by decide)
    exact brTestStep_apply hf b
  | brFix => exact brFixStep_apply g s
  | brCommit => exact brCommitStep_apply g s
  | aslV | lsrV | rolV | rorV | incV | decV => exact runMicro_alu_apply hp (by simp) s
  | oraV | andV | eorV =>
    have ha := hr .a rfl
    have hs : (g.apply s).a = s.a := congrFun ha s.a
    simp only [runMicro, hs, apply_v, logicStep_apply hp ha]
  | adcV => exact adcStep_apply hp (hr .a rfl) s
  | sbcV => exact sbcStep_apply hp (hr .a rfl) s
  | cmpV q =>
    have hq : (g.apply s).reg q = s.reg q := by simp [hr q (by simp [readsMicroReg])]
    simp only [runMicro, hq, apply_p, apply_v, cmpFlags_apply hp]
    rfl
  | bitV => simp [runMicro, Change.apply, bitFlags, hr .a rfl, hp.set]
  | _ => rfl

end

/-! ### A run with a change, and an instruction with one -/

/-- A micro-op that carries a change along. -/
abbrev Carries (g : Change) (m : MicroOp) : Prop := ∀ s, tick m (g.apply s) = g.apply (tick m s)

/-- A micro-op after which the change is gone. -/
abbrev Undoes (g : Change) (m : MicroOp) : Prop := ∀ s, tick m (g.apply s) = tick m s

theorem carries_of_unread {g : Change} (hp : OnlyI g.p) {m : MicroOp}
    (hr : ∀ r, readsMicroReg r m || overwritesReg r m → g.reg r = id) (hi : readsI m || overwritesI m → g.p = id) :
    Carries g m := by
  intro s
  rw [tick, runMicro_apply hp hr hi]
  rfl

/-- A run whose micro-ops each carry the change along or undo it ends without the change once one has undone it, and
otherwise with the change and no other difference. -/
theorem runToEnd_apply {g : Change} {undoes : MicroOp → Bool} : ∀ {ops : List MicroOp},
    (∀ m ∈ ops, undoes m = true → Undoes g m) → (∀ m ∈ ops, undoes m = false → Carries g m) → ∀ s,
    runToEnd ops (g.apply s) = if ops.any undoes then runToEnd ops s else g.apply (runToEnd ops s)
  | [], _, _, _ => rfl
  | m :: ms, hu, hc, s => by
    obtain ⟨hum, hums⟩ := List.forall_mem_cons.mp hu
    obtain ⟨hcm, hcms⟩ := List.forall_mem_cons.mp hc
    cases hm : undoes m with
    | true => rw [List.any_cons, hm, Bool.true_or, if_pos rfl, runToEnd, hum hm s, runToEnd]
    | false =>
      rw [List.any_cons, hm, Bool.false_or, runToEnd, runToEnd, hcm hm s, apply_yield]
      split
      · have hserv : service (clearYield (g.apply (tick m s))) = g.apply (service (clearYield (tick m s))) :=
          service_apply g (clearYield (tick m s))
        rw [hserv, runToEnd_apply hums hcms]
      · exact runToEnd_apply hums hcms _

/-- R241: between two instructions an instruction runs. -/
theorem runInstruction_between {s : State} (hf : s.fault = false) (hy : s.yield = false) (hb : BetweenInstructions s)
    (op : Byte) (seq : List MicroOp) :
    runInstruction op seq s = .next (runToEnd seq (beginInstr op seq (service s))) := by
  simp [runInstruction, hf, hy, hb]

/-- An instruction whose micro-ops each carry the change along or undo it runs the same way with the change. -/
theorem exec_apply {g : Change} {undoes : MicroOp → Bool} {i : Instr} {s t : State}
    (hu : ∀ m ∈ seqOf i, undoes m = true → Undoes g m) (hc : ∀ m ∈ seqOf i, undoes m = false → Carries g m)
    (hx : exec i s = .next t) :
    exec i (g.apply s) = .next (if (seqOf i).any undoes then t else g.apply t) := by
  rw [exec_eq] at hx ⊢
  obtain ⟨hfault, hyield, hb, rfl⟩ := runInstruction_next hx
  have hbegin : beginInstr i.opcode (seqOf i) (service (g.apply s)) =
      g.apply (beginInstr i.opcode (seqOf i) (service s)) :=
    congrArg (beginInstr i.opcode (seqOf i)) (service_apply g s)
  rw [runInstruction_between (s := g.apply s) hfault hyield hb, hbegin, runToEnd_apply hu hc]

/-! ### Another byte in one register -/

/-- Another byte in a register, and everything else left alone. -/
def setByte (r : Reg) (b : Byte) : Change where
  reg q := if q = r then fun _ => b else id
  p := id

theorem setByte_apply (r : Reg) (b : Byte) (s : State) : (setByte r b).apply s = s.setReg r b := by
  cases r <;> rfl

theorem setByte_reg_of_ne {q r : Reg} (h : q ≠ r) (b : Byte) : (setByte r b).reg q = id := if_neg h

theorem setReg_reg_self (r : Reg) (s : State) : s.setReg r (s.reg r) = s := by
  cases r <;> rfl

theorem setByte_undoes {r : Reg} {m : MicroOp} (h : overwritesReg r m = true) (b : Byte) :
    Undoes (setByte r b) m := by
  cases m with
  | vTo q =>
    obtain rfl : q = r := by simpa [overwritesReg] using h
    intro s
    cases q <;> rfl
  | _ => cases h

theorem setByte_carries {r : Reg} {m : MicroOp} (hr : readsMicroReg r m = false) (hw : overwritesReg r m = false)
    (b : Byte) : Carries (setByte r b) m := by
  refine carries_of_unread id_onlyI (fun q hq => setByte_reg_of_ne ?_ b) (fun _ => rfl)
  rintro rfl
  simp [hr, hw] at hq

/-- R32 to R34, R36: the sequence of an instruction that does not read a register holds no micro-op that does. -/
theorem seqOf_readsReg (r : Reg) (i : Instr) : (readsReg r i || (seqOf i).all fun m => !readsMicroReg r m) = true := by
  cases r <;> cases i <;> rfl

/-- R32 to R34, R36: an instruction that does not read a register writes it exactly when its sequence overwrites it. -/
theorem seqOf_overwritesReg (r : Reg) (i : Instr) :
    (readsReg r i || (seqOf i).any (overwritesReg r) == writesReg r i) = true := by
  cases r <;> cases i <;> rfl

theorem exec_setReg {r : Reg} {i : Instr} (hr : readsReg r i = false) {s t : State} (hx : exec i s = .next t)
    (b : Byte) : exec i (s.setReg r b) = .next (t.setReg r (if writesReg r i then t.reg r else b)) := by
  have hreads : ∀ m ∈ seqOf i, readsMicroReg r m = false := by simpa [hr] using seqOf_readsReg r i
  have hwrites : (seqOf i).any (overwritesReg r) = writesReg r i := by simpa [hr] using seqOf_overwritesReg r i
  have h := exec_apply (fun m _ hw => setByte_undoes hw b) (fun m hm hw => setByte_carries (hreads m hm) hw b) hx
  rw [setByte_apply, setByte_apply, hwrites] at h
  rw [h]
  split
  · rw [setReg_reg_self]
  · rfl

/-- Settles O20: no micro-op of the sequence reads the register. -/
theorem registersInfluenceOnlyTheirReaders : Obligations.RegistersInfluenceOnlyTheirReaders := by
  intro i s t b hx
  exact ⟨fun h => exec_setReg h hx b, fun h => exec_setReg h hx b, fun h => exec_setReg h hx b,
    fun h => exec_setReg h hx b⟩

/-! ### The I flag flipped -/

/-- R38: the status byte with I flipped and every other bit as it was. -/
def flipI (p : Byte) : Byte := p ^^^ 0x04#8

theorem getFlag_flipI (p : Byte) (f : Flag) : getFlag (flipI p) f = if f = .i then !getFlag p .i else getFlag p f := by
  cases f <;> simp [getFlag, flipI, flagBit]

theorem reservedBits_flipI (p : Byte) : reservedBits (flipI p) = reservedBits p := by
  apply BitVec.eq_of_getLsbD_eq
  intro k hk
  have h4 : ∀ j, j < 8 → (0x04#8).getLsbD j = (j == 2) := by decide
  rw [getLsbD_reservedBits _ k hk, getLsbD_reservedBits _ k hk, flipI, BitVec.getLsbD_xor, h4 k hk]
  by_cases h : k = 2
  · simp [h]
  · rw [beq_eq_false_iff_ne.mpr h, Bool.xor_false]

theorem setFlag_flipI {f : Flag} (hf : f ≠ .i) (p : Byte) (b : Bool) :
    setFlag (flipI p) f b = flipI (setFlag p f b) := by
  apply status_ext
  · intro g
    by_cases hg : g = .i
    · simp [getFlag_flipI, hg, hf.symm]
    · simp [getFlag_flipI, hg]
  · simp [reservedBits_flipI]

theorem setFlag_i_flipI (p : Byte) (b : Bool) : setFlag (flipI p) .i b = setFlag p .i b := by
  apply status_ext
  · intro g
    by_cases hg : g = .i <;> simp [getFlag_flipI, hg]
  · simp [reservedBits_flipI]

theorem flipI_onlyI : OnlyI flipI where
  get f p hf := by rw [getFlag_flipI, if_neg hf]
  set _ p b hf := setFlag_flipI hf p b

/-- I flipped, and everything else left alone. -/
def flipChange : Change where
  reg _ := id
  p := flipI

theorem flipChange_apply (s : State) : flipChange.apply s = { s with p := s.p ^^^ 0x04#8 } := rfl

theorem flipChange_undoes {m : MicroOp} (h : overwritesI m = true) : Undoes flipChange m := by
  intro s
  cases m with
  | pFromV => rfl
  | setF f b =>
    cases f with
    | i =>
      have hset : setFlag (flipI s.p) .i b = setFlag s.p .i b := setFlag_i_flipI s.p b
      simp [tick, runMicro, flipChange, Change.apply, hset]
    | _ => cases h
  | _ => cases h

theorem flipChange_carries {m : MicroOp} (hr : readsI m = false) (hw : overwritesI m = false) :
    Carries flipChange m :=
  carries_of_unread flipI_onlyI (fun _ _ => rfl) (by simp [hr, hw])

/-- R43, R504: only PHP and BRK read I, to push it. -/
theorem seqOf_readsI {i : Instr} (hphp : i ≠ .php) (hbrk : i ≠ .brk) : ∀ m ∈ seqOf i, readsI m = false := by
  have h : (i ∈ [Instr.php, .brk] || (seqOf i).all fun m => !readsI m) = true := by
    cases i <;> rfl
  simpa [hphp, hbrk] using h

/-- R42: SEI, CLI, PLP and RTI write I, and so does BRK. -/
theorem seqOf_overwritesI {i : Instr} (h : i ∈ [Instr.sei, .cli, .plp, .rti]) :
    (seqOf i).any overwritesI = true := by
  simp only [List.mem_cons, List.not_mem_nil, or_false] at h
  rcases h with rfl | rfl | rfl | rfl <;> rfl

/-- R42: no other instruction than these and BRK writes I. -/
theorem seqOf_not_overwritesI {i : Instr} (h : i ∉ [Instr.sei, .cli, .plp, .rti]) (hbrk : i ≠ .brk) :
    (seqOf i).any overwritesI = false := by
  cases i
  case brk => exact absurd rfl hbrk
  case sei | cli | plp | rti => simp at h
  all_goals rfl

/-- Settles O24: no micro-op of the sequence reads I. -/
theorem interruptDisableMasksNothing : Obligations.InterruptDisableMasksNothing := by
  intro i s t hphp hbrk hx
  have h := exec_apply (fun m _ hw => flipChange_undoes hw)
    (fun m hm hw => flipChange_carries (seqOf_readsI hphp hbrk m hm) hw) hx
  rw [flipChange_apply, flipChange_apply] at h
  rw [h]
  by_cases hi : i ∈ [Instr.sei, .cli, .plp, .rti]
  · rw [seqOf_overwritesI hi, if_pos rfl, if_pos hi]
  · rw [seqOf_not_overwritesI hi hbrk, if_neg Bool.false_ne_true, if_neg hi]

end Sys2Proof.Machine
end

section
/-! A call and the bus (20_memory.md R73, R74; 42_decode_scheduler.md R240 to R245): what a call does with the data byte of
the bus record, and what the caller's service before it leaves in memory and on the trace. -/

namespace Sys2Proof.Machine

/-! ### What every call keeps -/

/-- R240 to R243: what a call can be: an unknown opcode recorded, an instruction begun, or one carried on. -/
theorem cycle_cases (s : State) :
    cycle s = raiseUnknownOpcode s.bus.data s ∨ (∃ op seq, cycle s = callCore (beginInstr op seq s)) ∨
      cycle s = callCore s := by
  rw [cycle, decodeCall]
  split
  · split
    · exact .inl rfl
    · exact .inr (.inl ⟨_, _, rfl⟩)
  · exact .inr (.inr rfl)

/-- R71: a call leaves memory as it was, for it reaches memory only through the bus. -/
@[simp] theorem cycle_mem (s : State) : (cycle s).mem = s.mem :=
  (congrArg State.mem (cycle_withMem s s.mem)).trans rfl

/-- R250: only the caller's service adds to the trace. -/
@[simp] theorem cycle_trace (s : State) : (cycle s).trace = s.trace := by
  rcases cycle_cases s with h | ⟨op, seq, h⟩ | h <;> rw [h]
  · rfl
  · exact runCall_trace _ (beginInstr op seq s)
  · exact runCall_trace _ s

/-- R245: a call that starts with the yield flag clear ends with it clear. -/
theorem cycle_yield {s : State} (hy : s.yield = false) : (cycle s).yield = false := by
  rcases cycle_cases s with h | ⟨op, seq, h⟩ | h <;> rw [h]
  · exact hy
  · exact runCall_yield _ _
  · exact runCall_yield _ _

/-! ### The data byte of the bus record -/

/-- R74, R145: only `WR_W` sets the data byte. -/
theorem tick_bus_data {m : MicroOp} {s : State} (h : m ≠ .wrW) : (tick m s).bus.data = s.bus.data := by
  cases m with
  | wrW => exact absurd rfl h
  | vTo r => cases r <;> rfl
  | fixCross | fixRdIfCross | brTest | brFix | brCommit | adcV | sbcV =>
    simp only [tick, runMicro, brTestStep, brFixStep, brCommitStep, adcStep, sbcStep]
    repeat' split
    all_goals rfl
  | _ => rfl

/-- R74: the micro-ops of a call leave the data byte alone unless the call ends at a write, for `WR_W` ends the call. -/
theorem runCall_bus_data : ∀ {ops : List MicroOp} {s : State}, (runCall ops s).bus.isWrite = false →
    (runCall ops s).bus.data = s.bus.data
  | [], _, _ => rfl
  | m :: ms, s, h => by
    by_cases hm : m = .wrW
    · subst hm
      cases h
    · have hdata := tick_bus_data (s := s) hm
      rw [runCall] at h ⊢
      split at h
      · next hy => rwa [if_pos hy]
      · next hy => rw [if_neg hy, runCall_bus_data h, hdata]

/-- Settles O11: decode leaves the data byte alone, and so do the micro-ops of a call that ends with a read pending. -/
theorem readRequestLeavesTheDataByte : Obligations.ReadRequestLeavesTheDataByte := by
  intro s hw
  rcases cycle_cases s with h | ⟨op, seq, h⟩ | h <;> rw [h] at hw ⊢
  · rfl
  · exact runCall_bus_data (s := beginInstr op seq s) hw
  · exact runCall_bus_data hw

/-! ### The caller's service -/

/-- Settles O9: the call after the caller's service leaves memory and trace as the service left them. -/
theorem stepServicesThePendingTransaction : Obligations.StepServicesThePendingTransaction := by
  intro s t hmem hstep
  obtain ⟨-, hy, -, rfl⟩ := step_next hstep
  refine ⟨cycle_yield (by simpa using hy), fun hw => ?_, fun hw => ?_⟩
  · rw [cycle_mem, TraceIs, cycle_trace, service_of_read hw]
    exact ⟨rfl, by simp [readEntry, hw]⟩
  · rw [MemBut, cycle_mem, TraceIs, cycle_trace, service_of_write hw]
    refine ⟨Memory.at_put_eq hmem, fun b hb => Memory.at_put_ne (by simpa using hb), ?_⟩
    simp [writeEntry, ← hw]

end Sys2Proof.Machine
end

section
/-! Decode and encode (30_encoding.md R100 to R106): an operand is read from its bytes exactly when it fits the mode, so
decode undoes encode and accepts nothing else; and which opcode bytes have a table entry, each with a sequence that
meets 42_decode_scheduler.md R246. -/

namespace Sys2Proof.Machine

/-! ### Operands -/

/-- R101, R102: an operand that fits the mode is read back from its bytes, and no byte after them is read. -/
theorem decodeOperand_bytes {m : Mode} {o : Operand} (h : m.fits o = true) (rest : List Byte) :
    decodeOperand m (o.bytes ++ rest) = some (o, rest) := by
  unfold Mode.fits at h
  split at h
  case h_14 => cases h
  all_goals simp [Operand.bytes, decodeOperand]

/-- R101, R102: an operand that was read fits the mode, and its bytes are those that were read. -/
theorem fits_of_decodeOperand {m : Mode} {bs rest : List Byte} {o : Operand}
    (h : decodeOperand m bs = some (o, rest)) : m.fits o = true ∧ o.bytes ++ rest = bs := by
  cases m with
  | imp | acc =>
    cases h
    exact ⟨rfl, rfl⟩
  | imm | zp | zpx | zpy | izx | izy | rel =>
    match bs, h with
    | _ :: _, h =>
      cases h
      exact ⟨rfl, rfl⟩
  | abs | abx | aby | ind =>
    match bs, h with
    | l :: b :: _, h =>
      cases h
      exact ⟨rfl, by simp [Operand.bytes]⟩

/-- R101, R102: reading an operand is the inverse of laying out its bytes, on the operands that fit the mode. -/
theorem decodeOperand_eq_some_iff {m : Mode} {bs rest : List Byte} {o : Operand} :
    decodeOperand m bs = some (o, rest) ↔ m.fits o = true ∧ o.bytes ++ rest = bs := by
  refine ⟨fits_of_decodeOperand, ?_⟩
  rintro ⟨hfits, rfl⟩
  exact decodeOperand_bytes hfits rest

/-- R100, R101: how many operand bytes there are depends on the mode alone. -/
theorem length_bytes_of_fits {m : Mode} {o : Operand} (h : m.fits o = true) :
    o.bytes.length = m.operandBytes := by
  unfold Mode.fits at h
  split at h
  case h_14 => cases h
  all_goals rfl

/-! ### Instructions -/

/-- R103: an opcode byte decodes to an instruction exactly when it is that instruction's. -/
theorem decodeOpcode_eq_some_iff {op : Byte} {i : Instr} : decodeOpcode op = some i ↔ i.opcode = op := by
  refine ⟨opcode_of_decodeOpcode, ?_⟩
  rintro rfl
  exact decodeOpcode_opcode i

/-- R100 to R103: what decode accepts: an opcode byte of the map, then an operand of the instruction's mode. -/
theorem decode_eq_ok_iff {bytes rest : List Byte} {x : Insn} :
    decode bytes = .ok (x, rest) ↔ ∃ op bs, bytes = op :: bs ∧ decodeOpcode op = some x.instr ∧
      decodeOperand x.instr.mode bs = some (x.operand, rest) := by
  constructor
  · intro h
    cases bytes with
    | nil => cases h
    | cons op bs =>
      rw [decode] at h
      split at h
      · cases h
      · next i hi =>
        split at h
        · cases h
        · next o r ho =>
          cases h
          exact ⟨op, bs, rfl, hi, ho⟩
  · rintro ⟨op, bs, rfl, hi, ho⟩
    simp only [decode, hi, ho]

/-- R100 to R103: the byte strings that decode to an instruction are its encodings, whatever follows them. -/
theorem decode_eq_ok_iff_encode {bytes rest : List Byte} {x : Insn} :
    decode bytes = .ok (x, rest) ↔ x.wf = true ∧ encode x ++ rest = bytes := by
  simp only [decode_eq_ok_iff, decodeOpcode_eq_some_iff, decodeOperand_eq_some_iff, Insn.wf, encode]
  constructor
  · rintro ⟨_, _, rfl, rfl, hfits, rfl⟩
    exact ⟨hfits, rfl⟩
  · rintro ⟨hfits, rfl⟩
    exact ⟨_, _, rfl, rfl, hfits, rfl⟩

/-- R100: an encoding is as long as the opcode alone says. -/
theorem length_encode {x : Insn} (h : x.wf = true) : (encode x).length = x.instr.length := by
  rw [encode, List.length_cons, length_bytes_of_fits h, Instr.length, Nat.add_comm]

/-- Settles O2: an encoding is among the byte strings that decode to its instruction. -/
theorem encodedInstructionDecodes : Obligations.EncodedInstructionDecodes :=
  fun _ _ h => decode_eq_ok_iff_encode.mpr ⟨h, rfl⟩

/-- Settles O3: nothing decodes but encodings of well-formed instructions. -/
theorem decodedBytesAreTheEncoding : Obligations.DecodedBytesAreTheEncoding := by
  intro bytes x rest h
  obtain ⟨hwf, hbytes⟩ := decode_eq_ok_iff_encode.mp h
  exact ⟨hwf, hbytes, length_encode hwf⟩

/-- Settles O1: decode computes each of the fourteen. -/
theorem wordsOfTheMapDecode : Obligations.WordsOfTheMapDecode :=
  ⟨rfl, rfl, rfl, rfl, rfl, rfl, rfl, rfl, rfl, rfl, rfl, rfl, rfl, rfl⟩

/-! ### The table -/

/-- R105: 151 opcode bytes have an entry. The two halves of the opcode space are counted apart, as `decide` does not go
256 deep. -/
theorem length_opcodesWithEntry :
    ((List.range 256).filter fun n => (table (BitVec.ofNat 8 n)).isSome).length = 151 := by
  rw [List.range_add (m := 128) (n := 128), List.filter_append, List.length_append]
  decide

/-- The mnemonics of R103, each once, in the order of `Mnemonic`. -/
def mnemonics : List Mnemonic :=
  [.brk, .ora, .asl, .php, .bpl, .clc, .jsr, .and, .bit, .rol, .plp, .bmi, .sec, .rti, .eor, .lsr, .pha, .jmp, .bvc,
    .cli, .rts, .adc, .ror, .pla, .bvs, .sei, .sta, .sty, .stx, .dey, .txa, .bcc, .tya, .txs, .ldy, .lda, .ldx, .tay,
    .tax, .bcs, .clv, .tsx, .cpy, .cmp, .dec, .iny, .dex, .bne, .cld, .cpx, .sbc, .inc, .inx, .nop, .beq, .sed]

theorem mem_mnemonics (m : Mnemonic) : m ∈ mnemonics := by
  cases m <;> decide

theorem nodup_mnemonics : mnemonics.Nodup := by
  decide

/-- R103, R109: the mnemonics of the table's entries, in the order of the opcode bytes. -/
def entryMnemonics : List Mnemonic :=
  (List.range 256).filterMap fun n => (table (BitVec.ofNat 8 n)).map Entry.mnemonic

/-- R105: every mnemonic has an entry. -/
theorem mem_entryMnemonics (m : Mnemonic) : m ∈ entryMnemonics := by
  cases m <;> decide

/-- R105: the table's mnemonics without repetition are `mnemonics` in some order. -/
theorem dedup_entryMnemonics_perm : List.Perm entryMnemonics.dedup mnemonics :=
  (List.perm_ext_iff_of_nodup (List.nodup_dedup _) nodup_mnemonics).mpr fun m =>
    iff_of_true (List.mem_dedup.mpr (mem_entryMnemonics m)) (mem_mnemonics m)

/-- Settles O4: the list and the count of entries by a look at each opcode byte, the count of mnemonics because all of
them appear. -/
theorem illegalOpcodesHaveNoEntry : Obligations.IllegalOpcodesHaveNoEntry := by
  refine ⟨fun op => ?_, length_opcodesWithEntry, dedup_entryMnemonics_perm.length_eq⟩
  rw [table, Option.map_eq_none_iff]
  revert op
  decide

/-- R110, R246: the sequence of every instruction is well formed. -/
theorem wfSeq_seqOf (i : Instr) : wfSeq (seqOf i) = true := by
  cases i <;> rfl

/-- Settles O5: an entry's sequence is an instruction's. -/
theorem everyEntryIsWellFormed : Obligations.EveryEntryIsWellFormed := by
  intro op e h
  obtain ⟨i, -, hseq⟩ := table_some h
  rw [hseq, wfSeq_seqOf]

end Sys2Proof.Machine
end

section
/-! The data-access instructions (41_addressing_modes.md R200 to R219): the tails that follow the composers, the sequence
of every read, store and read-modify-write instruction as its composer and tail, and from these what the instruction
leaves in memory and on the trace: which instructions leave memory alone, the result and the two writes of a
read-modify-write instruction, and the read that a page crossing costs. -/

namespace Sys2Proof.Machine

/-! ### Memory -/

/-- R71, R73: a run with no `WR_W` puts no write on the bus, so the caller changes no byte. -/
theorem runToEnd_mem : ∀ {ops : List MicroOp} {s : State}, ops.all (fun m => !writesMem m) = true →
    s.yield = false → (runToEnd ops s).mem = s.mem
  | [], _, _, _ => rfl
  | m :: ms, s, h, hs => by
    simp only [List.all_cons, Bool.and_eq_true] at h
    obtain ⟨hm, hms⟩ := h
    cases hy : (runMicro m s).yield
    · rw [runToEnd_quiet hy, runToEnd_mem hms (by simpa using hy), tick_mem]
    · have hw : (tick m s).bus.isWrite = false := by
        by_contra hw
        rw [tick_isWrite hs hy (by simpa using hw)] at hm
        cases hm
      rw [runToEnd_yield hy, runToEnd_mem hms (by simp), service_of_read (by simpa using hw)]
      exact tick_mem m s

/-- R145, R215, R304 to R306, R400, R401, R411, R414: only the writers of memory hold a `WR_W`. -/
theorem seqOf_writesMem (i : Instr) : (writesMemory i || (seqOf i).all fun m => !writesMem m) = true := by
  cases i <;> rfl

/-- Settles O23: at a boundary no write is pending, and no micro-op of the sequence makes one. -/
theorem memoryChangesOnlyByItsWriters : Obligations.MemoryChangesOnlyByItsWriters := by
  intro i s t hb hw h
  have hops : (seqOf i).all (fun m => !writesMem m) = true := by simpa [hw] using seqOf_writesMem i
  rw [exec_at_boundary hb] at h
  cases h
  rw [begin_at_boundary hb]
  obtain ⟨-, -, hy, -⟩ := hb
  exact runToEnd_mem hops hy

/-! ### Sequences as composer and tail -/

/-- R301 to R303, R321, R325, R327 to R333: the operation of a read instruction on its operand in `v`. -/
def readOps : Mnemonic → List MicroOp
  | .lda => loadOp .a
  | .ldx => loadOp .x
  | .ldy => loadOp .y
  | .adc => [.adcV]
  | .sbc => [.sbcV]
  | .and => [.andV]
  | .ora => [.oraV]
  | .eor => [.eorV]
  | .cmp => [.cmpV .a]
  | .cpx => [.cmpV .x]
  | .cpy => [.cmpV .y]
  | .bit => [.bitV]
  | _ => []

/-- R304 to R306: the register that a store writes to memory. -/
def storeSource : Mnemonic → Source
  | .stx => .x
  | .sty => .y
  | _ => .a

/-- R351 to R356: the ALU primitive of a read-modify-write instruction. -/
def rmwOp : Mnemonic → MicroOp
  | .asl => .aslV
  | .lsr => .lsrV
  | .rol => .rolV
  | .ror => .rorV
  | .inc => .incV
  | .dec => .decV
  | _ => .done

/-- R213: the sequence of a read instruction. -/
theorem seqOf_read {i : Instr} (hk : accessKind i.mnemonic = some .read) :
    isDataMode i.mode = true ∧ seqOf i = composerOf i.mode .read ++ readTail (readOps i.mnemonic) := by
  revert hk
  cases i <;> decide

/-- R214: the sequence of a store. -/
theorem seqOf_write {i : Instr} (hk : accessKind i.mnemonic = some .write) :
    isDataMode i.mode = true ∧ i.mode ≠ .imm ∧
      seqOf i = composerOf i.mode .write ++ writeTail (storeSource i.mnemonic) := by
  revert hk
  cases i <;> decide

/-- R215: the sequence of a read-modify-write instruction of memory. -/
theorem seqOf_rmw {i : Instr} (hk : accessKind i.mnemonic = some .rmw) (ha : i.mode ≠ .acc) :
    isDataMode i.mode = true ∧ i.mode ≠ .imm ∧
      seqOf i = composerOf i.mode .rmw ++ rmwTail (rmwOp i.mnemonic) := by
  revert hk ha
  cases i <;> decide

/-! ### The trace of a read and of a store -/

/-- R213: micro-ops that do not yield make no transaction. -/
theorem runToEnd_trace_of_quiet : ∀ {ops : List MicroOp} {s : State}, ops.all (fun m => !mayYield m) = true →
    s.yield = false → (runToEnd ops s).trace = s.trace
  | [], _, _, _ => rfl
  | m :: ms, s, h, hs => by
    simp only [List.all_cons, Bool.and_eq_true] at h
    obtain ⟨hm, hms⟩ := h
    have hy : (tick m s).yield = false := (tick_quiet m s (by simpa using hm)).trans hs
    rw [runToEnd_quiet hy, runToEnd_trace_of_quiet hms hy, tick_trace]

/-- R213: a read instruction's operation on its operand makes no transaction. -/
theorem readOps_quiet (m : Mnemonic) : (readOps m).all (fun op => !mayYield op) = true := by
  cases m <;> rfl

/-- R217: the transactions of a read instruction. -/
theorem exec_read_trace {i : Instr} {s t : State} (h : AtBoundary s) (hk : accessKind i.mnemonic = some .read)
    (ht : exec i s = .next t) : TraceIs s t (modeTrace i.mode .read s) := by
  obtain ⟨hm, hseq⟩ := seqOf_read hk
  obtain ⟨u, C, hu⟩ := exec_read h hm hseq
  cases hu.symm.trans ht
  exact (runToEnd_trace_of_quiet (s := tick .ldV u) (readOps_quiet _) C.yield).trans C.trace

/-- R214: what the write tail does: the register's byte, to `w`. -/
theorem runToEnd_writeTail (r : Source) {u : State} (hy : u.yield = false) :
    runToEnd (writeTail r) u =
      { u with
        v := u.source r, mem := u.mem.put u.w (u.source r), cursor := u.cursor + 3
        bus := { address := u.pc, data := u.source r, isWrite := false }
        trace := writeEntry u.w (u.source r) :: u.trace } := by
  simp [runToEnd, writeTail, tick, runMicro, busWrite, clearYield, service, queueFetch, writeEntry, hy]

/-- R218: the transactions of a store: the reads of its mode and one write. -/
theorem exec_write_trace {i : Instr} {s t : State} (h : AtBoundary s) (hk : accessKind i.mnemonic = some .write)
    (ht : exec i s = .next t) : ∃ e, TraceIs s t (modeTrace i.mode .write s ++ [e]) := by
  obtain ⟨hm, hi, hseq⟩ := seqOf_write hk
  obtain ⟨u, C, hu⟩ := exec_write h hm hi hseq
  cases hu.symm.trans ht
  refine ⟨writeEntry u.w (u.source (storeSource i.mnemonic)), ?_⟩
  rw [TraceIs, runToEnd_writeTail _ C.yield]
  simp [C.trace]

/-! ### The result of a read-modify-write instruction -/

/-- R170: writing the value a flag has changes nothing. -/
theorem setFlag_getFlag (p : Byte) (f : Flag) : setFlag p f (getFlag p f) = p := by
  refine status_ext (fun g => ?_) (by simp)
  rw [getFlag_setFlag]
  split
  · next h => rw [h]
  · rfl

/-- R182: the bit rotated in at the right is a sum. -/
theorem rolByte_value (b : Byte) (c : Bool) :
    b <<< 1 ||| (if c then 0x01#8 else 0x00#8) = b <<< 1 + (if c then 1#8 else 0#8) := by
  refine (BitVec.add_eq_or_of_and_eq_zero _ _ ?_).symm
  revert b c
  decide

/-- R183: the bit rotated in at the left is a sum. -/
theorem rorByte_value (b : Byte) (c : Bool) :
    b >>> 1 ||| (if c then 0x80#8 else 0x00#8) = b >>> 1 + (if c then 0x80#8 else 0#8) := by
  refine (BitVec.add_eq_or_of_and_eq_zero _ _ ?_).symm
  revert b c
  decide

/-- R41, R351 to R356: P after a read-modify-write instruction on the byte `b`. -/
def rmwStatus (m : Mnemonic) (p b : Byte) : Byte :=
  setNZ (setFlag p .c (rmwCarry m b (getFlag p .c))) (rmwResult m b (getFlag p .c))

/-- R180 to R185: the ALU primitive of a read-modify-write mnemonic leaves its result in `v` and its flags in P. -/
theorem runMicro_rmwOp {m : Mnemonic} (hk : accessKind m = some .rmw) (s : State) :
    runMicro (rmwOp m) s = { s with v := rmwResult m s.v (getFlag s.p .c), p := rmwStatus m s.p s.v } := by
  cases m with
  | asl | lsr => rfl
  | rol => simp [rmwOp, runMicro, shiftStep, rolByte, rmwStatus, rmwResult, rmwCarry, rolByte_value]
  | ror => simp [rmwOp, runMicro, shiftStep, rorByte, rmwStatus, rmwResult, rmwCarry, rorByte_value]
  | inc | dec => simp [rmwOp, runMicro, shiftStep, incByte, decByte, rmwStatus, rmwResult, rmwCarry, setFlag_getFlag]
  | _ => cases hk

/-- R215: what the read-modify-write tail does with the operand on the bus: the operand back to `w`, and then the
result. -/
theorem runToEnd_rmwTail {m : Mnemonic} (hk : accessKind m = some .rmw) {u : State} (hy : u.yield = false) :
    let old := u.bus.data
    let new := rmwResult m old (getFlag u.p .c)
    runToEnd (rmwTail (rmwOp m)) u =
      { u with
        v := new, p := rmwStatus m u.p old, mem := (u.mem.put u.w old).put u.w new, cursor := u.cursor + 5
        bus := { address := u.pc, data := new, isWrite := false }
        trace := writeEntry u.w new :: writeEntry u.w old :: u.trace } := by
  simp only [rmwTail, runToEnd, tick, runMicro_rmwOp hk]
  simp [runMicro, busWrite, clearYield, service, queueFetch, writeEntry, hy]

/-- R300: an operand that is neither immediate nor A is the byte at the effective address. -/
theorem effectiveAddr_of_operandByte {m : Mode} {s : State} {b : Byte} (hi : m ≠ .imm) (ha : m ≠ .acc)
    (h : operandByte m s = some b) : ∃ ea, effectiveAddr m s = some ea ∧ s.mem.at ea = b := by
  unfold operandByte at h
  split at h
  · exact absurd rfl hi
  · exact absurd rfl ha
  · exact Option.map_eq_some_iff.mp h

/-- R215, R219: a read-modify-write instruction of memory from a boundary: what its composer leaves, with the operand
written back to the effective address and then the result. -/
theorem exec_rmw_next {i : Instr} {s : State} (h : AtBoundary s) (hk : accessKind i.mnemonic = some .rmw)
    (ha : i.mode ≠ .acc) :
    ∃ ea u, effectiveAddr i.mode s = some ea ∧ Composed i.mode .rmw s u ∧
      let old := s.mem.at ea
      let new := rmwResult i.mnemonic old (getFlag s.p .c)
      exec i s = .next { u with
        v := new, p := rmwStatus i.mnemonic s.p old, mem := (s.mem.put ea old).put ea new, cursor := u.cursor + 5
        bus := { address := u.pc, data := new, isWrite := false }
        trace := writeEntry ea new :: writeEntry ea old :: u.trace } := by
  obtain ⟨hm, hi, hseq⟩ := seqOf_rmw hk ha
  obtain ⟨u, C, hu⟩ := exec_rmw h hm hi hseq
  obtain ⟨ea, hea, hdata⟩ := effectiveAddr_of_operandByte hi ha (C.data nofun)
  refine ⟨ea, u, hea, C, ?_⟩
  rw [hu, runToEnd_rmwTail hk C.yield, ← hdata, C.w ea hea, C.p, C.mem]

/-- R100: a composer leaves PC past the instruction's bytes. -/
theorem Composed.pc_advanced {i : Instr} {k : Kind} {s u : State} (C : Composed i.mode k s u) : PcAdvanced i s u := by
  rw [PcAdvanced, C.pc, Instr.length, BitVec.ofNat_add, BitVec.add_assoc]

/-- A composer leaves every register. -/
theorem Composed.reg {m : Mode} {k : Kind} {s u : State} (C : Composed m k s u) (r : Reg) : u.reg r = s.reg r := by
  cases r with
  | a => exact C.a
  | x => exact C.x
  | y => exact C.y
  | s => exact C.sp

/-- R42: N, Z and C are the only flags that a read-modify-write instruction writes. -/
theorem getFlag_rmwStatus (m : Mnemonic) (p b : Byte) (f : Flag) (hf : f ∉ [Flag.n, .z, .c]) :
    getFlag (rmwStatus m p b) f = getFlag p f := by
  simp only [List.mem_cons, List.not_mem_nil, or_false, not_or] at hf
  obtain ⟨hn, hz, hc⟩ := hf
  simp [rmwStatus, hn, hz, hc]

/-- R215, R219, R351 to R356: what a read-modify-write instruction of memory does from a boundary. -/
theorem exec_rmw_spec {i : Instr} {s : State} (h : AtBoundary s) (hmem : s.mem.wf = true)
    (hk : accessKind i.mnemonic = some .rmw) (ha : i.mode ≠ .acc) :
    ∃ ea t, effectiveAddr i.mode s = some ea ∧ exec i s = .next t ∧ AtBoundary t ∧
      (let old := s.mem.at ea;
        let new := rmwResult i.mnemonic old (getFlag s.p .c)
        t.mem.at ea = new ∧ NZOf t new ∧ getFlag t.p .c = rmwCarry i.mnemonic old (getFlag s.p .c) ∧
          TraceIs s t (modeTrace i.mode .rmw s ++ [writeEntry ea old, writeEntry ea new])) ∧
      Kept [] [.n, .z, .c] [ea] s t ∧ PcAdvanced i s t := by
  obtain ⟨ea, u, hea, C, hu⟩ := exec_rmw_next h hk ha
  refine ⟨ea, _, hea, hu, exec_boundary h hu,
    ⟨Memory.at_put_eq (Memory.put_wf hmem), by simp [NZOf, rmwStatus], by simp [rmwStatus], ?_⟩,
    ⟨fun r _ => C.reg r, ⟨getFlag_rmwStatus _ _ _, by simp [rmwStatus]⟩, fun b hb => ?_,
      ⟨C.fault, C.faultOpcode, C.decimal⟩, C.draws⟩, C.pc_advanced⟩
  · simp [TraceIs, C.trace]
  · have hne : b ≠ ea := by simpa using hb
    exact (Memory.at_put_ne hne).trans (Memory.at_put_ne hne)

/-- Settles O40: each row of the list is a read-modify-write instruction of memory, and every such instruction runs as
`exec_rmw_spec` says. -/
theorem readModifyWriteStoresTwice : Obligations.ReadModifyWriteStoresTwice := by
  intro op i hrow
  fin_cases hrow <;> exact ⟨rfl, fun s h hmem => exec_rmw_spec h hmem rfl nofun⟩

/-! ### The cost of a page crossing -/

/-- R219: the transactions of a read-modify-write instruction of memory: the reads of its mode and two writes. -/
theorem exec_rmw_trace {i : Instr} {s t : State} (h : AtBoundary s) (hk : accessKind i.mnemonic = some .rmw)
    (ha : i.mode ≠ .acc) (ht : exec i s = .next t) : ∃ e e', TraceIs s t (modeTrace i.mode .rmw s ++ [e, e']) := by
  obtain ⟨ea, u, -, C, hu⟩ := exec_rmw_next h hk ha
  cases hu.symm.trans ht
  exact ⟨writeEntry ea (s.mem.at ea), writeEntry ea (rmwResult i.mnemonic (s.mem.at ea) (getFlag s.p .c)),
    by simp [TraceIs, C.trace]⟩

/-- R75: one transaction a cycle. -/
theorem cyclesBetween_of_traceIs {s t : State} {es : List Bus} (h : TraceIs s t es) :
    cyclesBetween s t = es.length := by
  simp [cyclesBetween, h]

/-- R250: the trace is newest first. -/
theorem trace_getElem?_of_traceIs {s t : State} {before after : List Bus} {e : Bus}
    (h : TraceIs s t (before ++ e :: after)) : t.trace[after.length]? = some e := by
  simp [h]

/-- R209: the index addition crosses a page when the low bytes' sum is above 0xFF. -/
theorem pageCross_iff {base : Addr} {r : Byte} :
    pageCross (lo8 base) r = true ↔ 0xFF < base.toNat % 256 + r.toNat := by
  rw [pageCross, decide_eq_true_iff, toNat_lo8, Nat.lt_iff_add_one_le]

/-- R208, R211: the effective address of an indexed mode is the sum mod 2^16. -/
theorem effectiveAddr_of_indexBase {m : Mode} {s : State} {base : Addr} {r : Byte}
    (hb : indexBase m s = some (base, r)) : effectiveAddr m s = some (base + zext16 r) := by
  cases m with
  | abx | aby | izy =>
    cases hb
    rfl
  | _ => cases hb

/-- R217 to R219: the operand and pointer bytes of an indexed mode. -/
theorem length_pointerReads_of_indexBase {m : Mode} {s : State} {b : Addr × Byte} (hb : indexBase m s = some b) :
    (pointerReads m s).length = if m = .izy then 3 else 2 := by
  cases m with
  | abx | aby | izy => rfl
  | _ => cases hb

/-- R203: accumulator mode adds no index. -/
theorem mode_ne_acc_of_indexBase {m : Mode} {s : State} {b : Addr × Byte} (hb : indexBase m s = some b) :
    m ≠ .acc := by
  rintro rfl
  cases hb

/-- R209, R217 to R219: an indexed mode whose kind or sum calls for it reads at the uncorrected address, after its
pointer and just before the operand. -/
theorem modeTrace_of_corrected {m : Mode} {k : Kind} {s : State} {base : Addr} {r : Byte}
    (hb : indexBase m s = some (base, r)) (hc : k ≠ .read ∨ pageCross (lo8 base) r = true) :
    modeTrace m k s = (s.pc :: pointerReads m s).map (readEntry s.mem) ++
      readEntry s.mem (uncorrected base r) ::
        if k = .write then [] else [readEntry s.mem (base + zext16 r)] := by
  have hd : dummyReads m k s = [uncorrected base r] := by
    rw [dummyReads, hb]
    rcases hc with hk | hc
    · simp [hk]
    · simp [hc]
  rw [modeTrace, modeReads, hd, effectiveAddr_of_indexBase hb]
  cases k <;> simp

/-- R209, R217: fast indexing without a crossing goes from the pointer to the operand. -/
theorem modeTrace_of_uncrossed {m : Mode} {s : State} {base : Addr} {r : Byte}
    (hb : indexBase m s = some (base, r)) (hc : pageCross (lo8 base) r = false) :
    modeTrace m .read s =
      (s.pc :: pointerReads m s).map (readEntry s.mem) ++ [readEntry s.mem (base + zext16 r)] := by
  have hd : dummyReads m .read s = [] := by
    rw [dummyReads, hb]
    simp [hc]
  rw [modeTrace, modeReads, hd, effectiveAddr_of_indexBase hb]
  simp

/-- R209: a read instruction with an indexed mode. -/
theorem exec_read_crossing {i : Instr} {s t : State} {base : Addr} {r : Byte} (h : AtBoundary s)
    (hb : indexBase i.mode s = some (base, r)) (ht : exec i s = .next t)
    (hk : accessKind i.mnemonic = some .read) :
    cyclesBetween s t =
        (if i.mode = .izy then 5 else 4) + (if 0xFF < base.toNat % 256 + r.toNat then 1 else 0) ∧
      (0xFF < base.toNat % 256 + r.toNat → t.trace[1]? = some (readEntry s.mem (uncorrected base r))) := by
  have T := exec_read_trace h hk ht
  have hlen := length_pointerReads_of_indexBase hb
  simp only [cyclesBetween_of_traceIs T, ← pageCross_iff]
  cases hc : pageCross (lo8 base) r with
  | false =>
    rw [modeTrace_of_uncrossed hb hc]
    refine ⟨?_, nofun⟩
    grind
  | true =>
    rw [modeTrace_of_corrected hb (.inr hc)] at T ⊢
    refine ⟨?_, fun _ => trace_getElem?_of_traceIs T⟩
    grind

/-- R209: a store with an indexed mode. -/
theorem exec_write_crossing {i : Instr} {s t : State} {base : Addr} {r : Byte} (h : AtBoundary s)
    (hb : indexBase i.mode s = some (base, r)) (ht : exec i s = .next t)
    (hk : accessKind i.mnemonic = some .write) :
    (cyclesBetween s t = if i.mode = .izy then 6 else 5) ∧
      t.trace[1]? = some (readEntry s.mem (uncorrected base r)) := by
  obtain ⟨e, T⟩ := exec_write_trace h hk ht
  rw [modeTrace_of_corrected (k := .write) hb (.inl nofun), if_pos rfl, List.append_assoc] at T
  refine ⟨?_, trace_getElem?_of_traceIs (after := [e]) T⟩
  rw [cyclesBetween_of_traceIs T]
  have hlen := length_pointerReads_of_indexBase hb
  grind

/-- R209: a read-modify-write instruction with an indexed mode, which is abs,X. -/
theorem exec_rmw_crossing {i : Instr} {s t : State} {base : Addr} {r : Byte} (h : AtBoundary s)
    (hb : indexBase i.mode s = some (base, r)) (ht : exec i s = .next t)
    (hk : accessKind i.mnemonic = some .rmw) :
    cyclesBetween s t = 7 ∧ t.trace[3]? = some (readEntry s.mem (uncorrected base r)) := by
  obtain ⟨e, e', T⟩ := exec_rmw_trace h hk (mode_ne_acc_of_indexBase hb) ht
  rw [modeTrace_of_corrected (k := .rmw) hb (.inl nofun), if_neg nofun, List.append_assoc] at T
  refine ⟨?_, trace_getElem?_of_traceIs (after := [readEntry s.mem (base + zext16 r), e, e']) T⟩
  rw [cyclesBetween_of_traceIs T]
  have hm : i.mode ≠ .izy := by
    revert hk
    cases i <;> decide
  simp [length_pointerReads_of_indexBase hb, hm]

/-- Settles O18: each kind's transactions, counted, with the read at the uncorrected address at its place among them. -/
theorem pageCrossingCostsOneReadOnlyInFastIndexing : Obligations.PageCrossingCostsOneReadOnlyInFastIndexing := by
  intro i s base r h hb
  obtain ⟨t, ht⟩ : ∃ t, exec i s = .next t := ⟨_, exec_at_boundary h i⟩
  exact ⟨t, ht, exec_read_crossing h hb ht, exec_write_crossing h hb ht, exec_rmw_crossing h hb ht⟩

end Sys2Proof.Machine
end

section
/-! The scheduler (42_decode_scheduler.md R240 to R252): an unknown opcode is a sticky fault and nothing else stops the
machine; a decoded instruction is its first call, which never finishes it, and then the calls of what is left, one
transaction a call, up to the next boundary after at most seven. -/

namespace Sys2Proof.Machine

/-! ### The fault, and the defects that do not occur -/

/-- R242, R502: the sticky fault stops every step. -/
theorem step_faulted {s : State} (h : s.fault = true) : step s = .fault (.unknownOpcode s.faultOpcode) := by
  rw [step, clockCycle, if_pos h]

/-- R242, R502: the sticky fault stops every instruction. -/
theorem exec_faulted {s : State} (h : s.fault = true) (i : Instr) :
    exec i s = .fault (.unknownOpcode s.faultOpcode) := by
  rw [exec_eq, runInstruction, if_pos h]

/-- R249, R503: a state without fault and without a sequencer defect has a next state. -/
theorem step_of_consistent {s : State} (hf : s.fault = false) (hy : s.yield = false)
    (hc : s.cursor ≤ s.seq.length) : step s = .next (cycle (service s)) := by
  simp [step, clockCycle, hf, hy, hc]

/-- Settles O15: the invariant excludes both sequencer defects. -/
theorem onlyTheUnknownOpcodeStopsTheMachine : Obligations.OnlyTheUnknownOpcodeStopsTheMachine :=
  fun _ h => ⟨fun hf => ⟨_, step_of_consistent hf h.yielded h.cursor⟩, step_faulted⟩

/-! ### Decode at a boundary -/

/-- R73, R248: at a boundary the caller's service is the read of the opcode byte at PC. -/
theorem service_at_boundary {s : State} (h : AtBoundary s) :
    service s = { s with
      bus := { s.bus with data := s.mem.at s.pc }
      trace := readEntry s.mem s.pc :: s.trace } := by
  obtain ⟨-, -, -, -, hw, ha⟩ := h
  simp [service_of_read hw, readEntry, ha, hw]

/-- R241: the step from a boundary decodes the byte read. -/
theorem step_at_boundary {s : State} (h : AtBoundary s) : step s = .next (decodeCall (service s)) := by
  obtain ⟨hc, hf, hy, -⟩ := h
  exact step_between hf hy hc

/-- R242: decode of a byte without a table entry. -/
theorem decodeCall_unknown {s : State} (h : table s.bus.data = none) :
    decodeCall s = raiseUnknownOpcode s.bus.data s := by
  rw [decodeCall, h]

/-- R109: the table entry of an instruction's opcode byte. -/
theorem table_opcode (i : Instr) : table i.opcode = some ⟨i.mnemonic, i.mode, seqOf i⟩ := by
  rw [table, decodeOpcode_opcode, Option.map_some]

/-- R241: decode of an instruction's opcode byte. -/
theorem decodeCall_opcode {s : State} {i : Instr} (h : s.bus.data = i.opcode) :
    decodeCall s = callCore (beginInstr i.opcode (seqOf i) s) := by
  rw [decodeCall, h, table_opcode]

/-- Settles O12: decode raises the fault, and the fault stops what follows. -/
theorem unknownOpcodeIsAStickyFault : Obligations.UnknownOpcodeIsAStickyFault := by
  intro s h ht
  refine ⟨_, ?_, rfl, step_faulted rfl, exec_faulted rfl⟩
  rw [step_at_boundary h, service_at_boundary h, decodeCall_unknown ht]
  rfl

/-! ### The first call of an instruction -/

/-- R241, R243: the state after an instruction's decode call. -/
def firstCall (i : Instr) (s : State) : State := callCore (beginInstr i.opcode (seqOf i) (service s))

/-- R142, R143, R246 (1): a sequence that starts with a fetch yields at its first micro-op. -/
theorem startsWithFetch_yields {ops : List MicroOp} (h : startsWithFetch ops = true) :
    ∃ m ms, ops = m :: ms ∧ mayYield m = true ∧ ∀ s, (tick m s).yield = true := by
  unfold startsWithFetch at h
  split at h
  · exact ⟨_, _, rfl, rfl, fun _ => rfl⟩
  · exact ⟨_, _, rfl, rfl, fun _ => rfl⟩
  · cases h

/-- R246 (1), (2): an instruction yields at its first micro-op, and has more of them. -/
theorem seqOf_eq_cons (i : Instr) :
    ∃ m ms, seqOf i = m :: ms ∧ ms ≠ [] ∧ ∀ s, (tick m s).yield = true := by
  have hwf := wfSeq_seqOf i
  simp only [wfSeq, Bool.and_eq_true] at hwf
  obtain ⟨⟨⟨⟨⟨hfetch, -⟩, -⟩, -⟩, -⟩, -⟩ := hwf
  obtain ⟨m, ms, hseq, hm, hy⟩ := startsWithFetch_yields hfetch
  have hch := chained_seqOf i
  rw [hseq] at hch
  obtain ⟨⟨hmore, -⟩, -⟩ := chained_cons.mp hch
  exact ⟨m, ms, hseq, hmore hm, hy⟩

/-- R75: the first call comes after one service. -/
theorem firstCall_trace_length (i : Instr) (s : State) :
    (firstCall i s).trace.length = s.trace.length + 1 := by
  simp [firstCall, callCore]

theorem firstCall_fault (i : Instr) (s : State) : (firstCall i s).fault = s.fault := by
  simp [firstCall, callCore]

theorem firstCall_yield (i : Instr) (s : State) : (firstCall i s).yield = false :=
  runCall_yield _ _

/-- R243, R245: the first call is the first micro-op of the sequence; the others are left. -/
theorem firstCall_spec (i : Instr) (s : State) :
    (firstCall i s).rest = (seqOf i).drop 1 ∧ (firstCall i s).rest ≠ [] ∧
      runToEnd (seqOf i) (beginInstr i.opcode (seqOf i) (service s)) =
        runToEnd (firstCall i s).rest (service (firstCall i s)) := by
  obtain ⟨m, ms, hseq, hne, hy⟩ := seqOf_eq_cons i
  have hbegin : (beginInstr i.opcode (seqOf i) (service s)).rest = m :: ms := hseq
  have hfirst : firstCall i s = clearYield (tick m (beginInstr i.opcode (seqOf i) (service s))) := by
    rw [firstCall, callCore, hbegin, runCall, if_pos (hy _)]
  have hrest : (firstCall i s).rest = ms := by
    rw [hfirst]
    exact tick_rest hbegin
  refine ⟨by rw [hrest, hseq, List.drop_one, List.tail_cons], by rwa [hrest], ?_⟩
  calc runToEnd (seqOf i) (beginInstr i.opcode (seqOf i) (service s))
      = runToEnd (m :: ms) (beginInstr i.opcode (seqOf i) (service s)) := congrArg (runToEnd · _) hseq
    _ = runToEnd (firstCall i s).rest (service (firstCall i s)) := by
      rw [runToEnd_yield (hy _), hrest, hfirst]

/-- R246 (2): what the first call leaves ends free. -/
theorem firstCall_endsFree (i : Instr) (s : State) : endsFree (firstCall i s).rest = true := by
  obtain ⟨hrest, hne, -⟩ := firstCall_spec i s
  rw [hrest] at hne ⊢
  exact endsFree_drop (endsFree_seqOf i) (Nat.lt_of_not_le fun hlen => hne (List.drop_eq_nil_of_le hlen))

/-- R240: from a boundary an instruction is its first call and then what that leaves. -/
theorem exec_firstCall {s : State} (h : AtBoundary s) (i : Instr) :
    exec i s = .next (runToEnd (firstCall i s).rest (service (firstCall i s))) := by
  obtain ⟨-, -, hrun⟩ := firstCall_spec i s
  rw [exec_at_boundary h, hrun]

/-- A state with micro-ops left is in the middle of an instruction. -/
theorem cursor_lt_of_rest_ne_nil {s : State} (h : s.rest ≠ []) : s.cursor < s.seq.length := by
  obtain ⟨_, _, hr⟩ := List.exists_cons_of_ne_nil h
  exact cursor_lt_of_rest hr

/-- R247: after the first call the steps run what is left of the instruction, one transaction a step. -/
theorem exec_runSteps {s : State} (h : AtBoundary s) (i : Instr) :
    ∃ t n, exec i s = .next t ∧ 0 < n ∧ cyclesBetween s t = n + 1 ∧ runSteps n (firstCall i s) = .next t ∧
      ∀ j, j < n → ∃ u, runSteps j (firstCall i s) = .next u ∧ ¬ BetweenInstructions u := by
  obtain ⟨-, hne, -⟩ := firstCall_spec i s
  have hx := exec_firstCall h i
  obtain ⟨-, hf, -⟩ := h
  obtain ⟨n, hn, hrun, htrace, hmid⟩ := runSteps_middle _ (firstCall i s) ((firstCall_fault i s).trans hf)
    (firstCall_yield i s) (cursor_lt_of_rest_ne_nil hne) (firstCall_endsFree i s) le_rfl
  refine ⟨_, n, hx, hn, ?_, hrun, hmid⟩
  rw [cyclesBetween, htrace, firstCall_trace_length]
  omega

/-! ### The steps of a decoded instruction -/

/-- A run of `n + 1` steps from a state that has a next one. -/
theorem runSteps_succ {s t : State} (h : step s = .next t) (n : Nat) : runSteps (n + 1) s = runSteps n t := by
  rw [runSteps, h]

/-- R100, R103: bytes that decode to an instruction begin with its opcode byte. -/
theorem opcode_of_decode {b : Byte} {bs rest : List Byte} {x : Insn} (h : decode (b :: bs) = .ok (x, rest)) :
    b = x.instr.opcode := by
  obtain ⟨op, bs', heq, hop, -⟩ := decode_eq_ok_iff.mp h
  cases heq
  exact (opcode_of_decodeOpcode hop).symm

/-- R240, R241: the step from a boundary at an instruction's opcode byte is the instruction's first call. -/
theorem step_eq_firstCall {s : State} {i : Instr} (h : AtBoundary s) (hop : s.mem.at s.pc = i.opcode) :
    step s = .next (firstCall i s) := by
  rw [step_at_boundary h, firstCall, decodeCall_opcode]
  rw [service_at_boundary h]
  exact hop

/-- Settles O8: the first step is the first call, and the steps after it run what that leaves. -/
theorem stepsRunTheDecodedInstruction : Obligations.StepsRunTheDecodedInstruction := by
  intro s x rest h hd
  obtain ⟨hwf, -⟩ := decode_eq_ok_iff_encode.mp hd
  have hstep := step_eq_firstCall h (opcode_of_decode hd)
  obtain ⟨t, n, hx, hn, hcycles, hrun, hmid⟩ := exec_runSteps h x.instr
  refine ⟨hwf, hstep, t, hx, exec_boundary h hx, by omega, ?_, fun k hk hlt => ?_⟩
  · rw [hcycles, runSteps_succ hstep, hrun]
  · obtain ⟨j, rfl⟩ := Nat.exists_eq_succ_of_ne_zero hk.ne'
    rw [Nat.succ_eq_add_one, runSteps_succ hstep]
    exact hmid j (by omega)

/-! ### The number of cycles -/

/-- R247: a run makes at most one transaction for each of its micro-ops that may yield. -/
theorem runToEnd_trace_length_le : ∀ (ops : List MicroOp) {s : State}, s.yield = false →
    (runToEnd ops s).trace.length ≤ s.trace.length + ops.countP mayYield
  | [], _, _ => Nat.le_refl _
  | m :: ms, s, hs => by
    cases hy : (runMicro m s).yield
    · have ih := runToEnd_trace_length_le ms (s := tick m s) hy
      rw [tick_trace] at ih
      rw [runToEnd_quiet hy, List.countP_cons]
      omega
    · have ih := runToEnd_trace_length_le ms (s := service (clearYield (tick m s))) (by simp)
      rw [service_trace_length, clearYield_trace, tick_trace] at ih
      rw [runToEnd_yield hy, List.countP_cons_of_pos (mayYield_of_tick hs hy)]
      omega

/-- R247: no sequence has more than six micro-ops that may yield. -/
theorem countP_mayYield_seqOf_le (i : Instr) : (seqOf i).countP mayYield ≤ 6 := by
  cases i <;> decide

/-- R247: the opcode fetch and at most six more transactions. -/
theorem cyclesBetween_exec_le {i : Instr} {s t : State} (h : AtBoundary s) (hx : exec i s = .next t) :
    cyclesBetween s t ≤ 7 := by
  rw [exec_at_boundary h] at hx
  cases hx
  obtain ⟨-, -, hy, -⟩ := h
  have hlen := runToEnd_trace_length_le (seqOf i) (s := beginInstr i.opcode (seqOf i) (service s)) (by simpa using hy)
  rw [beginInstr_trace, service_trace_length] at hlen
  have hcount := countP_mayYield_seqOf_le i
  rw [cyclesBetween]
  omega

/-- Settles O16: the first call and at least one more, and a transaction for each yield at most. -/
theorem everyInstructionCompletes : Obligations.EveryInstructionCompletes := by
  intro i s h
  obtain ⟨t, n, hx, hn, hcycles, -, -⟩ := exec_runSteps h i
  exact ⟨t, hx, exec_boundary h hx, by omega, cyclesBetween_exec_le h hx⟩

end Sys2Proof.Machine
end

section
/-! Loads and stores (43_load_store.md R301 to R306): what a load's operation does with the operand that its composer
left on the bus, and the byte that a store's write tail puts at the effective address, each with the rest of the
state. -/

namespace Sys2Proof.Machine

/-! ### Registers -/

@[simp] theorem setReg_pc (s : State) (r : Reg) (b : Byte) : (s.setReg r b).pc = s.pc := by cases r <;> rfl
@[simp] theorem setReg_mem (s : State) (r : Reg) (b : Byte) : (s.setReg r b).mem = s.mem := by cases r <;> rfl
@[simp] theorem setReg_trace (s : State) (r : Reg) (b : Byte) : (s.setReg r b).trace = s.trace := by cases r <;> rfl
@[simp] theorem setReg_fault (s : State) (r : Reg) (b : Byte) : (s.setReg r b).fault = s.fault := by cases r <;> rfl
@[simp] theorem setReg_faultOpcode (s : State) (r : Reg) (b : Byte) : (s.setReg r b).faultOpcode = s.faultOpcode := by
  cases r <;> rfl
@[simp] theorem setReg_decimal (s : State) (r : Reg) (b : Byte) : (s.setReg r b).decimal = s.decimal := by
  cases r <;> rfl
@[simp] theorem setReg_draws (s : State) (r : Reg) (b : Byte) : (s.setReg r b).draws = s.draws := by cases r <;> rfl

/-- R165: a register write changes the named register and no other. -/
@[simp] theorem reg_setReg (s : State) (r q : Reg) (b : Byte) :
    (s.setReg r b).reg q = if q = r then b else s.reg q := by
  cases r <;> cases q <;> rfl

/-- R164: a source that is a register reads that register. -/
theorem source_of_sourceReg {src : Source} {r : Reg} (h : sourceReg src = some r) (s : State) :
    s.source src = s.reg r := by
  cases src with
  | a | x | y | s =>
    cases h
    rfl
  | pch | pcl | pPush => cases h

/-! ### Loads -/

/-- R213, R301 to R303: what the latch and a load's operation do with the operand on the bus. -/
theorem runToEnd_loadOp (r : Reg) {u : State} (hy : u.yield = false) :
    runToEnd (loadOp r) (tick .ldV u) =
      { u.setReg r u.bus.data with
        v := u.bus.data, p := setNZ u.p u.bus.data, cursor := u.cursor + 3
        bus := { u.bus with address := u.pc, isWrite := false } } := by
  cases r <;> simp [loadOp, runToEnd, tick, runMicro, State.setReg, queueFetch, hy]

/-- R213, R217, R301 to R303: what a load does from a boundary. -/
theorem exec_load_spec {i : Instr} {r : Reg} {s : State} (h : AtBoundary s)
    (hk : accessKind i.mnemonic = some .read) (hr : readOps i.mnemonic = loadOp r) :
    ∃ m t, operandByte i.mode s = some m ∧ exec i s = .next t ∧ AtBoundary t ∧
      t.reg r = m ∧ NZOf t m ∧ Kept [r] [.n, .z] [] s t ∧ PcAdvanced i s t ∧
      TraceIs s t (modeTrace i.mode .read s) := by
  obtain ⟨hm, hseq⟩ := seqOf_read hk
  obtain ⟨u, C, hu⟩ := exec_read h hm hseq
  rw [hr, runToEnd_loadOp r C.yield] at hu
  have hreg : ∀ q, (u.setReg r u.bus.data).reg q = if q = r then u.bus.data else s.reg q := by
    simp [C.reg]
  refine ⟨u.bus.data, _, C.data nofun, hu, exec_boundary h hu, (hreg r).trans (if_pos rfl), by simp [NZOf],
    ⟨fun q hq => (hreg q).trans (if_neg (by simpa using hq)), ⟨fun f hf => ?_, by simp [C.p]⟩,
      fun b _ => by simp [C.mem], by simp [ModeKept, C.fault, C.faultOpcode, C.decimal], by simp [C.draws]⟩,
    (setReg_pc _ _ _).trans C.pc_advanced, (setReg_trace _ _ _).trans C.trace⟩
  obtain ⟨hn, hz⟩ : f ≠ .n ∧ f ≠ .z := by simpa using hf
  simp [hn, hz, C.p]

/-- Settles O25: each row of the list is a read instruction whose operation is the load of the row's register, and every
such instruction runs as `exec_load_spec` says. -/
theorem loadsSetRegisterNAndZ : Obligations.LoadsSetRegisterNAndZ := by
  intro op i r hrow
  fin_cases hrow <;> exact ⟨rfl, fun s h => exec_load_spec h rfl rfl⟩

/-! ### Stores -/

/-- R205 to R211: every data-access mode but immediate has an effective address. -/
theorem exists_effectiveAddr {m : Mode} (hm : isDataMode m = true) (hi : m ≠ .imm) (s : State) :
    ∃ ea, effectiveAddr m s = some ea := by
  cases m with
  | imm => exact absurd rfl hi
  | imp | acc | ind | rel => cases hm
  | _ => exact ⟨_, rfl⟩

/-- R214, R218, R304 to R306: what a store does from a boundary. -/
theorem exec_store_spec {i : Instr} {r : Reg} {s : State} (h : AtBoundary s) (hmem : s.mem.wf = true)
    (hk : accessKind i.mnemonic = some .write) (hr : sourceReg (storeSource i.mnemonic) = some r) :
    ∃ ea t, effectiveAddr i.mode s = some ea ∧ exec i s = .next t ∧ AtBoundary t ∧
      t.mem.at ea = s.reg r ∧ Kept [] [] [ea] s t ∧ PcAdvanced i s t ∧
      TraceIs s t (modeTrace i.mode .write s ++ [writeEntry ea (s.reg r)]) := by
  obtain ⟨hm, hi, hseq⟩ := seqOf_write hk
  obtain ⟨u, C, hu⟩ := exec_write h hm hi hseq
  obtain ⟨ea, hea⟩ := exists_effectiveAddr hm hi s
  rw [runToEnd_writeTail _ C.yield, C.w ea hea, source_of_sourceReg hr, C.reg r, C.mem] at hu
  refine ⟨ea, _, hea, hu, exec_boundary h hu, Memory.at_put_eq hmem,
    ⟨fun q _ => C.reg q, ⟨by simp [C.p], by simp [C.p]⟩, fun b hb => Memory.at_put_ne (by simpa using hb),
      ⟨C.fault, C.faultOpcode, C.decimal⟩, C.draws⟩, C.pc_advanced, ?_⟩
  simp [TraceIs, C.trace]

/-- Settles O26: each row of the list is a store of the row's register, and every store runs as `exec_store_spec`
says. -/
theorem storesWriteTheRegisterAtTheEffectiveAddress :
    Obligations.StoresWriteTheRegisterAtTheEffectiveAddress := by
  intro op i r hrow
  fin_cases hrow <;> exact ⟨rfl, fun s h hmem => exec_store_spec h hmem rfl rfl⟩

end Sys2Proof.Machine
end

section
/-! Add, subtract, logic, compare and bit test (44_arith_logic_compare.md R321 to R333): an
operation of one micro-op works on the boundary state with the operand in `v`, whatever the composer did to the rest
of the state. -/

namespace Sys2Proof.Machine

/-! ### An operation of one micro-op on the operand -/

/-- `u` with all that a read operation works on (the registers, P, `v` and the decimal fields) taken from `q`. -/
def State.withAlu (u q : State) : State :=
  { u with
    a := q.a, x := q.x, y := q.y, sp := q.sp, p := q.p, v := q.v, decimal := q.decimal, draws := q.draws }

/-- R189, R190: `ADC_V` and `SBC_V`, which differ only in their functions for decimal and binary mode. -/
def arithStep (dec bin : Byte → Byte → Bool → Arith) (s : State) : State :=
  if getFlag s.p .d then
    match s.decimal with
    | .nmos => s.setAcc (dec s.a s.v (getFlag s.p .c))
    | .openDraw => drawDecimal s
  else s.setAcc (bin s.a s.v (getFlag s.p .c))

theorem adcStep_eq_arithStep : adcStep = arithStep adcDecimal adcBinary := rfl

theorem sbcStep_eq_arithStep : sbcStep = arithStep sbcDecimal sbcBinary := rfl

/-- R189, R190: an add or a subtract where nothing is drawn. -/
theorem arithStep_of_nmos {s : State} (h : getFlag s.p .d = false ∨ s.decimal = .nmos)
    (dec bin : Byte → Byte → Bool → Arith) :
    arithStep dec bin s = s.setAcc (if getFlag s.p .d then dec s.a s.v (getFlag s.p .c)
      else bin s.a s.v (getFlag s.p .c)) := by
  cases hd : getFlag s.p .d
  · simp [arithStep, hd]
  · have hn : s.decimal = .nmos := by simpa [hd] using h
    simp [arithStep, hd, hn]

/-- R326: an add or a subtract in decimal mode under `PARAM_DECIMAL = open`. -/
theorem arithStep_of_openDraw {s : State} (hd : getFlag s.p .d = true) (ho : s.decimal = .openDraw)
    (dec bin : Byte → Byte → Bool → Arith) : arithStep dec bin s = drawDecimal s := by
  simp [arithStep, hd, ho]

theorem arithStep_withAlu (dec bin : Byte → Byte → Bool → Arith) (u q : State) :
    arithStep dec bin (u.withAlu q) = u.withAlu (arithStep dec bin q) := by
  by_cases h : getFlag q.p .d = false ∨ q.decimal = .nmos
  · rw [arithStep_of_nmos h, arithStep_of_nmos (s := u.withAlu q) h]
    rfl
  · obtain ⟨hd, hn⟩ := not_or.mp h
    have ho : q.decimal = .openDraw := by
      cases hq : q.decimal with
      | nmos => exact absurd hq hn
      | openDraw => rfl
    have hd' : getFlag q.p .d = true := by simpa using hd
    rw [arithStep_of_openDraw hd' ho, arithStep_of_openDraw (s := u.withAlu q) hd' ho]
    rfl

/-- R140, R186 to R192: a read operation of one micro-op neither reads nor writes anything else. -/
theorem runMicro_withAlu {m : Mnemonic} {op : MicroOp} (h : readOps m = [op]) (u q : State) :
    runMicro op (u.withAlu q) = u.withAlu (runMicro op q) := by
  cases m with
  | adc =>
    cases h
    exact arithStep_withAlu adcDecimal adcBinary u q
  | sbc =>
    cases h
    exact arithStep_withAlu sbcDecimal sbcBinary u q
  | and | ora | eor | cmp | cpx | cpy | bit =>
    cases h
    rfl
  | _ => cases h

/-- R213: after the latch, a read operation finds the operand in `v` and the rest as at the boundary. -/
theorem Composed.latch_eq_withAlu {m : Mode} {k : Kind} {s u : State} (C : Composed m k s u) :
    tick .ldV u = (tick .ldV u).withAlu { s with v := u.bus.data } := by
  simp [tick, runMicro, State.withAlu, C.a, C.x, C.y, C.sp, C.p, C.decimal, C.draws]

/-- `t` is the boundary state after a read instruction from `s` whose operation left `q`. -/
structure ReadDone (i : Instr) (s q t : State) : Prop where
  boundary : AtBoundary t
  reg : ∀ r, t.reg r = q.reg r
  p : t.p = q.p
  draws : t.draws = q.draws
  mem : t.mem = s.mem
  mode : ModeKept s t
  pc : PcAdvanced i s t
  trace : TraceIs s t (modeTrace i.mode .read s)

/-- R213, R217: a read instruction with an operation of one micro-op does what that micro-op does to the boundary state
with the operand in `v`. -/
theorem exec_readOp_spec {i : Instr} {op : MicroOp} {s : State} (h : AtBoundary s)
    (hk : accessKind i.mnemonic = some .read) (hr : readOps i.mnemonic = [op]) :
    ∃ m t, operandByte i.mode s = some m ∧ exec i s = .next t ∧ ReadDone i s (runMicro op { s with v := m }) t := by
  obtain ⟨hm, hseq⟩ := seqOf_read hk
  obtain ⟨u, C, hu⟩ := exec_read h hm hseq
  have hy : (runMicro op (tick .ldV u)).yield = false := by
    rw [C.latch_eq_withAlu, runMicro_withAlu hr]
    exact C.yield
  rw [hr, runToEnd_quiet hy, tick, C.latch_eq_withAlu, runMicro_withAlu hr] at hu
  exact ⟨u.bus.data, _, C.data nofun, hu, exec_boundary h hu, fun r => by cases r <;> rfl, rfl, rfl, C.mem,
    ⟨C.fault, C.faultOpcode, (tick_decimal op _).trans rfl⟩, C.pc_advanced, C.trace⟩

/-- The frame of a read instruction, from what its operation keeps. -/
theorem ReadDone.kept {i : Instr} {s q t : State} {rs : List Reg} {fs : List Flag} (D : ReadDone i s q t)
    (hr : RegsBut rs s q) (hf : FlagsBut fs s q) (hd : q.draws = s.draws) : Kept rs fs [] s t := by
  refine ⟨fun r hrs => (D.reg r).trans (hr r hrs), ?_, fun _ _ => by rw [D.mem], D.mode, D.draws.trans hd⟩
  rwa [FlagsBut, D.p]

/-! ### AND, ORA, EOR -/

@[simp] theorem logicStep_p (b : Byte) (s : State) : (logicStep b s).p = setNZ s.p b := rfl

/-- R186 to R188: a boolean combination changes A and no other register. -/
@[simp] theorem reg_logicStep (b : Byte) (s : State) (r : Reg) :
    (logicStep b s).reg r = if r = .a then b else s.reg r := by
  cases r <;> rfl

/-- R42: a boolean combination writes N and Z of P and nothing else. -/
theorem flagsBut_of_setNZ {s q : State} {b : Byte} (hq : q.p = setNZ s.p b) : FlagsBut [.n, .z] s q := by
  refine ⟨fun f hf => ?_, by rw [hq, reservedBits_setNZ]⟩
  obtain ⟨hn, hz⟩ : f ≠ .n ∧ f ≠ .z := by simpa using hf
  rw [hq, getFlag_setNZ, if_neg hn, if_neg hz]

/-- R327 to R329: what a read instruction does whose operation is the boolean combination `f` of A and the operand. -/
theorem exec_logic_spec {i : Instr} {op : MicroOp} {s : State} (f : Byte → Byte → Byte) (h : AtBoundary s)
    (hk : accessKind i.mnemonic = some .read) (hr : readOps i.mnemonic = [op])
    (hop : ∀ u, runMicro op u = logicStep (f u.a u.v) u) :
    ∃ m t, operandByte i.mode s = some m ∧ exec i s = .next t ∧ AtBoundary t ∧
      t.a = f s.a m ∧ NZOf t (f s.a m) ∧ Kept [.a] [.n, .z] [] s t ∧ PcAdvanced i s t ∧
      TraceIs s t (modeTrace i.mode .read s) := by
  obtain ⟨m, t, hm, ht, D⟩ := exec_readOp_spec h hk hr
  rw [hop] at D
  refine ⟨m, t, hm, ht, D.boundary, D.reg .a, by simp [NZOf, D.p],
    D.kept (fun r hrs => ?_) (flagsBut_of_setNZ rfl) rfl, D.pc, D.trace⟩
  have hra : r ≠ .a := by simpa using hrs
  rw [reg_logicStep, if_neg hra]
  rfl

/-- Settles O34: each row of the list is a read instruction whose operation is `AND_V`. -/
theorem andIntoTheAccumulator : Obligations.AndIntoTheAccumulator := by
  intro op i hrow
  fin_cases hrow <;> exact ⟨rfl, fun s h => exec_logic_spec (· &&& ·) h rfl rfl fun _ => rfl⟩

/-- Settles O35: each row of the list is a read instruction whose operation is `ORA_V`. -/
theorem orIntoTheAccumulator : Obligations.OrIntoTheAccumulator := by
  intro op i hrow
  fin_cases hrow <;> exact ⟨rfl, fun s h => exec_logic_spec (· ||| ·) h rfl rfl fun _ => rfl⟩

/-- Settles O36: each row of the list is a read instruction whose operation is `EOR_V`. -/
theorem exclusiveOrIntoTheAccumulator : Obligations.ExclusiveOrIntoTheAccumulator := by
  intro op i hrow
  fin_cases hrow <;> exact ⟨rfl, fun s h => exec_logic_spec (· ^^^ ·) h rfl rfl fun _ => rfl⟩

/-! ### Compares and BIT -/

/-- R191: the flags of a compare; Z says that the two bytes are equal. -/
theorem getFlag_cmpFlags (p r m : Byte) (f : Flag) :
    getFlag (cmpFlags p r m) f =
      match f with
      | .n => (r - m).getLsbD 7
      | .z => r == m
      | .c => decide (m.toNat ≤ r.toNat)
      | f => getFlag p f := by
  have hz : (r - m == 0#8) = (r == m) := by
    rw [Bool.eq_iff_iff, beq_iff_eq, beq_iff_eq]
    exact sub_eq_zero
  cases f <;> simp [cmpFlags, hz]

@[simp] theorem reservedBits_cmpFlags (p r m : Byte) : reservedBits (cmpFlags p r m) = reservedBits p := by
  simp [cmpFlags]

/-- R42: a compare writes N, Z and C of P and nothing else. -/
theorem flagsBut_of_cmpFlags {s q : State} {r m : Byte} (hq : q.p = cmpFlags s.p r m) :
    FlagsBut [.n, .z, .c] s q := by
  refine ⟨fun f hf => ?_, by rw [hq, reservedBits_cmpFlags]⟩
  rw [hq, getFlag_cmpFlags]
  cases f with
  | n | z | c => simp at hf
  | v | d | i => rfl

/-- R330 to R332: what a compare with the register `r` does from a boundary. -/
theorem exec_compare_spec {i : Instr} {r : Reg} {s : State} (h : AtBoundary s)
    (hk : accessKind i.mnemonic = some .read) (hr : readOps i.mnemonic = [.cmpV r]) :
    ∃ m t, operandByte i.mode s = some m ∧ exec i s = .next t ∧ AtBoundary t ∧
      getFlag t.p .c = decide (m.toNat ≤ (s.reg r).toNat) ∧ getFlag t.p .z = (s.reg r == m) ∧
      getFlag t.p .n = (s.reg r - m).getLsbD 7 ∧
      Kept [] [.n, .z, .c] [] s t ∧ PcAdvanced i s t ∧ TraceIs s t (modeTrace i.mode .read s) := by
  obtain ⟨m, t, hm, ht, D⟩ := exec_readOp_spec h hk hr
  have hflag (f : Flag) : getFlag t.p f = getFlag (cmpFlags s.p (s.reg r) m) f := congrArg (getFlag · f) D.p
  exact ⟨m, t, hm, ht, D.boundary, by rw [hflag, getFlag_cmpFlags], by rw [hflag, getFlag_cmpFlags],
    by rw [hflag, getFlag_cmpFlags], D.kept (fun _ _ => rfl) (flagsBut_of_cmpFlags rfl) rfl, D.pc, D.trace⟩

/-- Settles O37: each row of the list is a read instruction whose operation is the compare with the row's register. -/
theorem comparesSetCarryZeroAndNegative : Obligations.ComparesSetCarryZeroAndNegative := by
  intro op i r hrow
  fin_cases hrow <;> exact ⟨rfl, fun s h => exec_compare_spec h rfl rfl⟩

/-- R192: the flags of a bit test. -/
theorem getFlag_bitFlags (p a m : Byte) (f : Flag) :
    getFlag (bitFlags p a m) f =
      match f with
      | .n => m.getLsbD 7
      | .v => m.getLsbD 6
      | .z => a &&& m == 0#8
      | f => getFlag p f := by
  cases f <;> simp [bitFlags]

@[simp] theorem reservedBits_bitFlags (p a m : Byte) : reservedBits (bitFlags p a m) = reservedBits p := by
  simp [bitFlags]

/-- R42: a bit test writes N, V and Z of P and nothing else. -/
theorem flagsBut_of_bitFlags {s q : State} {a m : Byte} (hq : q.p = bitFlags s.p a m) :
    FlagsBut [.n, .v, .z] s q := by
  refine ⟨fun f hf => ?_, by rw [hq, reservedBits_bitFlags]⟩
  rw [hq, getFlag_bitFlags]
  cases f with
  | n | v | z => simp at hf
  | d | i | c => rfl

/-- R333: what BIT does from a boundary. -/
theorem exec_bit_spec {i : Instr} {s : State} (h : AtBoundary s)
    (hk : accessKind i.mnemonic = some .read) (hr : readOps i.mnemonic = [.bitV]) :
    ∃ m t, operandByte i.mode s = some m ∧ exec i s = .next t ∧ AtBoundary t ∧
      getFlag t.p .z = (s.a &&& m == 0#8) ∧ getFlag t.p .n = m.getLsbD 7 ∧ getFlag t.p .v = m.getLsbD 6 ∧
      Kept [] [.n, .v, .z] [] s t ∧ PcAdvanced i s t ∧ TraceIs s t (modeTrace i.mode .read s) := by
  obtain ⟨m, t, hm, ht, D⟩ := exec_readOp_spec h hk hr
  have hflag (f : Flag) : getFlag t.p f = getFlag (bitFlags s.p s.a m) f := congrArg (getFlag · f) D.p
  exact ⟨m, t, hm, ht, D.boundary, by rw [hflag, getFlag_bitFlags], by rw [hflag, getFlag_bitFlags],
    by rw [hflag, getFlag_bitFlags], D.kept (fun _ _ => rfl) (flagsBut_of_bitFlags rfl) rfl, D.pc, D.trace⟩

/-- Settles O38: both rows are read instructions whose operation is `BIT_V`. -/
theorem bitTestsTheOperand : Obligations.BitTestsTheOperand := by
  intro op i hrow
  fin_cases hrow <;> exact ⟨rfl, fun s h => exec_bit_spec h rfl rfl⟩

/-! ### ADC and SBC -/

/-- R189, R190: an add or a subtract changes A and no other register. -/
@[simp] theorem reg_setAcc (s : State) (r : Arith) (q : Reg) :
    (s.setAcc r).reg q = if q = .a then r.value else s.reg q := by
  cases q <;> rfl

/-- R42: an add or a subtract writes N, V, Z and C of P and nothing else. -/
theorem flagsBut_of_setArith {s q : State} {r : Arith} (hq : q.p = setArith s.p r) :
    FlagsBut [.n, .v, .z, .c] s q := by
  refine ⟨fun f hf => ?_, by rw [hq, reservedBits_setArith]⟩
  rw [hq, getFlag_setArith]
  cases f with
  | n | v | z | c => simp at hf
  | d | i => rfl

/-- The registers after an add or a subtract of the operand in `v`. -/
theorem setAcc_regsBut (s : State) (m : Byte) (r : Arith) :
    RegsBut [.a] s (({ s with v := m } : State).setAcc r) := by
  intro q hq
  have hqa : q ≠ .a := by simpa using hq
  rw [reg_setAcc, if_neg hqa]
  rfl

section
variable {i : Instr} {s : State} {op : MicroOp} {dec bin : Byte → Byte → Bool → Arith}

/-- R321, R325: what a read instruction does whose operation is an add or a subtract, where nothing is drawn. -/
theorem exec_arith_spec (h : AtBoundary s) (hk : accessKind i.mnemonic = some .read)
    (hr : readOps i.mnemonic = [op]) (hop : runMicro op = arithStep dec bin)
    (hd : getFlag s.p .d = false ∨ s.decimal = .nmos) :
    ∃ m t, operandByte i.mode s = some m ∧ exec i s = .next t ∧ AtBoundary t ∧
      (let r := if getFlag s.p .d then dec s.a m (getFlag s.p .c) else bin s.a m (getFlag s.p .c);
        t.a = r.value ∧ ArithFlagsOf t r) ∧
      Kept [.a] [.n, .v, .z, .c] [] s t ∧ PcAdvanced i s t ∧ TraceIs s t (modeTrace i.mode .read s) := by
  obtain ⟨m, t, hm, ht, D⟩ := exec_readOp_spec h hk hr
  rw [hop, arithStep_of_nmos (s := { s with v := m }) hd] at D
  exact ⟨m, t, hm, ht, D.boundary, ⟨D.reg .a, by simp [ArithFlagsOf, D.p]⟩,
    D.kept (setAcc_regsBut _ _ _) (flagsBut_of_setArith rfl) rfl, D.pc, D.trace⟩

/-- R326: what a read instruction does whose operation is an add or a subtract, where the result is drawn. -/
theorem exec_draw_spec (h : AtBoundary s) (hk : accessKind i.mnemonic = some .read)
    (hr : readOps i.mnemonic = [op]) (hop : runMicro op = arithStep dec bin)
    (hd : getFlag s.p .d = true) (ho : s.decimal = .openDraw) :
    ∃ t, exec i s = .next t ∧ AtBoundary t ∧ RegsBut [.a] s t ∧ FlagsBut [.n, .v, .z, .c] s t ∧
      MemBut [] s t ∧ ModeKept s t ∧ t.draws = s.draws + 1 ∧ PcAdvanced i s t ∧
      TraceIs s t (modeTrace i.mode .read s) := by
  obtain ⟨m, t, -, ht, D⟩ := exec_readOp_spec h hk hr
  rw [hop, arithStep_of_openDraw (s := { s with v := m }) hd ho] at D
  exact ⟨t, ht, D.boundary, fun q hq => (D.reg q).trans (setAcc_regsBut s m (openArith s.draws) q hq),
    flagsBut_of_setArith D.p, fun _ _ => by rw [D.mem], D.mode, D.draws, D.pc, D.trace⟩

end

/-- Settles O27: each row of the list is a read instruction whose operation is `ADC_V`. -/
theorem addWithCarry : Obligations.AddWithCarry := by
  intro op i hrow
  fin_cases hrow <;> exact ⟨rfl, fun s h => exec_arith_spec h rfl rfl adcStep_eq_arithStep⟩

/-- Settles O28: each row of the list is a read instruction whose operation is `SBC_V`. -/
theorem subtractWithBorrow : Obligations.SubtractWithBorrow := by
  intro op i hrow
  fin_cases hrow <;> exact ⟨rfl, fun s h => exec_arith_spec h rfl rfl sbcStep_eq_arithStep⟩

/-- R321, R325: ADC and SBC are read instructions whose operation is an add or a subtract. -/
theorem readOps_arith {m : Mnemonic} (h : m = .adc ∨ m = .sbc) :
    ∃ op dec bin, accessKind m = some .read ∧ readOps m = [op] ∧ runMicro op = arithStep dec bin := by
  rcases h with rfl | rfl
  · exact ⟨.adcV, _, _, rfl, rfl, adcStep_eq_arithStep⟩
  · exact ⟨.sbcV, _, _, rfl, rfl, sbcStep_eq_arithStep⟩

/-- Settles O29: each row of the list is an ADC or an SBC, and `exec_draw_spec` says what both do. -/
theorem openDecimalLeavesOnlyTheResultOpen : Obligations.OpenDecimalLeavesOnlyTheResultOpen := by
  intro op i hrow
  have hi : i.opcode = op ∧ (i.mnemonic = .adc ∨ i.mnemonic = .sbc) := by fin_cases hrow <;> decide
  obtain ⟨hop, hi⟩ := hi
  obtain ⟨_, _, _, hk, hr, hstep⟩ := readOps_arith hi
  exact ⟨hop, fun s h => exec_draw_spec h hk hr hstep⟩

end Sys2Proof.Machine
end

section
/-! Binary and decimal add and subtract as arithmetic (44_arith_logic_compare.md R320 to R324): the result byte, its
digits and the four flags, by the values of the bytes. -/

namespace Sys2Proof.Machine

/-! ### Bytes by value -/

/-- R38: the sign bit of a byte. -/
theorem getLsbD_seven (b : Byte) : b.getLsbD 7 = decide (128 ≤ b.toNat) := BitVec.msb_eq_decide b

/-- R322: the sign bit of an intermediate sum. -/
theorem testBit_seven (n : Nat) : n.testBit 7 = decide (128 ≤ n % 256) := by
  rw [Nat.testBit_eq_decide_div_mod_eq]
  exact decide_eq_decide.mpr (by omega)

/-- A byte as two's complement. -/
theorem toInt_byte (b : Byte) : b.toInt = if 128 ≤ b.toNat then (b.toNat : Int) - 256 else b.toNat := by
  rw [BitVec.toInt_eq_toNat_cond]
  split <;> split <;> omega

theorem toNat_decide (p : Prop) [Decidable p] : (decide p).toNat = if p then 1 else 0 := by
  by_cases h : p <;> simp [h]

/-- R320, R323: the overflow formulas mask all but the sign bit. -/
theorem and_0x80_ne_zero (b : Byte) : (b &&& 0x80#8 != 0#8) = b.getLsbD 7 := by
  revert b
  decide

/-- R320: V of an add: the operands have one sign and the result the other. -/
theorem addOverflow_iff (a m r : Byte) : (~~~(a ^^^ m) &&& (a ^^^ r) &&& 0x80#8 != 0#8) = true ↔
    (128 ≤ a.toNat ↔ 128 ≤ m.toNat) ∧ ¬(128 ≤ a.toNat ↔ 128 ≤ r.toNat) := by
  rw [and_0x80_ne_zero, BitVec.getLsbD_and, BitVec.getLsbD_not, BitVec.getLsbD_xor, BitVec.getLsbD_xor]
  simp only [getLsbD_seven]
  simp

/-- R323: V of a subtract: the operands have two signs and the result that of the second. -/
theorem subOverflow_iff (a m r : Byte) : ((a ^^^ m) &&& (a ^^^ r) &&& 0x80#8 != 0#8) = true ↔
    ¬(128 ≤ a.toNat ↔ 128 ≤ m.toNat) ∧ ¬(128 ≤ a.toNat ↔ 128 ≤ r.toNat) := by
  rw [and_0x80_ne_zero, BitVec.getLsbD_and, BitVec.getLsbD_xor, BitVec.getLsbD_xor]
  simp only [getLsbD_seven]
  simp

/-! ### Binary -/

theorem adcBinary_value (a m : Byte) (c : Bool) :
    (adcBinary a m c).value.toNat = (a.toNat + m.toNat + c.toNat) % 256 := BitVec.toNat_ofNat _ 8

theorem sbcBinary_value (a m : Byte) (c : Bool) :
    (sbcBinary a m c).value.toNat = (a.toNat + (255 - m.toNat) + c.toNat) % 256 := by
  rw [← BitVec.toNat_not (x := m)]
  exact BitVec.toNat_ofNat _ 8

/-- R323: C of a subtract is not-borrow. -/
theorem sbcBinary_carry (a m : Byte) (c : Bool) :
    (sbcBinary a m c).c = decide (m.toNat + (1 - c.toNat) ≤ a.toNat) := by
  have hm : (~~~m).toNat = 255 - m.toNat := BitVec.toNat_not
  have hmlt := m.isLt
  have hc := c.toNat_le
  exact decide_eq_decide.mpr (by omega)

/-- Settles O30: the carry and the result are quotient and remainder of the sum by 256, and V compares the signs. -/
theorem binaryAddIsIntegerAddition : Obligations.BinaryAddIsIntegerAddition := by
  intro a m c
  have ha := a.isLt
  have hm := m.isLt
  have hc := c.toNat_le
  have hr := adcBinary_value a m c
  refine ⟨?_, (addOverflow_iff a m (adcBinary a m c).value).trans ?_, rfl, rfl⟩
  · have hcarry : (adcBinary a m c).c.toNat = if 0xFF < a.toNat + m.toNat + c.toNat then 1 else 0 := toNat_decide _
    rw [hr, hcarry]
    split <;> omega
  · rw [hr, toInt_byte, toInt_byte]
    split <;> split <;> omega

/-- Settles O31: `not8(m)` is `255 - m`, so the sum is the difference with 256 added, and V compares the signs. -/
theorem binarySubtractIsIntegerSubtraction : Obligations.BinarySubtractIsIntegerSubtraction := by
  intro a m c
  have ha := a.isLt
  have hm := m.isLt
  have hc := c.toNat_le
  have hr := sbcBinary_value a m c
  refine ⟨by rw [sbcBinary_carry, decide_eq_true_eq], ?_,
    (subOverflow_iff a m (sbcBinary a m c).value).trans ?_, rfl, rfl⟩
  · rw [hr, sbcBinary_carry, toNat_decide]
    split <;> omega
  · rw [hr, toInt_byte, toInt_byte]
    split <;> split <;> omega

/-! ### Decimal add -/

/-- R322: a digit of the result, from the sum of the two digits and the carry into them. -/
def addDigit (n : Nat) : Nat := if 10 ≤ n then (n + 6) % 16 else n

/-- R322: the sum of the low digits and the carry in. -/
def lowSum (a m : Byte) (c : Bool) : Nat := a.toNat % 16 + m.toNat % 16 + c.toNat

/-- R322: the sum of the high digits and the carry of the low ones. -/
def highSum (a m : Byte) (c : Bool) : Nat := a.toNat / 16 + m.toNat / 16 + if 10 ≤ lowSum a m c then 1 else 0

theorem addDigit_lt (n : Nat) : addDigit n < 16 := by
  unfold addDigit
  split <;> omega

theorem highSum_lt (a m : Byte) (c : Bool) : highSum a m c < 32 := by
  have ha := a.isLt
  have hm := m.isLt
  unfold highSum
  split <;> omega

/-- R322: the intermediate sum has the high sum above the corrected low digit. -/
theorem adcDecimalMid_eq (a m : Byte) (c : Bool) :
    adcDecimalMid a m c = 16 * highSum a m c + addDigit (lowSum a m c) := by
  have hlow : adcDecimalLow a m c =
      if 10 ≤ lowSum a m c then (lowSum a m c + 6) % 16 + 16 else lowSum a m c := rfl
  rw [adcDecimalMid, hlow, highSum, addDigit]
  split <;> omega

theorem adcDecimal_value (a m : Byte) (c : Bool) :
    (adcDecimal a m c).value.toNat = 16 * addDigit (highSum a m c) + addDigit (lowSum a m c) := by
  have hd := addDigit_lt (lowSum a m c)
  have hh := highSum_lt a m c
  have hdigit : addDigit (highSum a m c) =
      if 10 ≤ highSum a m c then (highSum a m c + 6) % 16 else highSum a m c := rfl
  simp only [adcDecimal, adcDecimalMid_eq, BitVec.toNat_ofNat, hdigit]
  split <;> split <;> omega

theorem adcDecimal_carry (a m : Byte) (c : Bool) : (adcDecimal a m c).c = decide (10 ≤ highSum a m c) := by
  have hd := addDigit_lt (lowSum a m c)
  simp only [adcDecimal, adcDecimalMid_eq]
  refine decide_eq_decide.mpr ?_
  split <;> omega

/-- R322: bit 7 of the intermediate sum is bit 3 of the high sum. -/
theorem adcDecimal_negative (a m : Byte) (c : Bool) :
    (adcDecimal a m c).n = decide (8 ≤ highSum a m c % 16) := by
  have hd := addDigit_lt (lowSum a m c)
  simp only [adcDecimal, adcDecimalMid_eq, testBit_seven]
  exact decide_eq_decide.mpr (by omega)

/-- R322: V of a decimal add: the operands have one sign and the intermediate sum the other. -/
theorem adcDecimal_overflow (a m : Byte) (c : Bool) : (adcDecimal a m c).v = true ↔
    (128 ≤ a.toNat ↔ 128 ≤ m.toNat) ∧ ¬(128 ≤ a.toNat ↔ 8 ≤ highSum a m c % 16) := by
  have hn := adcDecimal_negative a m c
  simp only [adcDecimal] at hn ⊢
  simp only [hn, getLsbD_seven, Bool.and_eq_true, beq_iff_eq, bne_iff_ne, ne_eq, decide_eq_decide]
  exact and_congr_right fun _ => not_congr iff_comm

/-- R322: Z of a decimal add follows the binary sum. -/
theorem adcDecimal_zero (a m : Byte) (c : Bool) : (adcDecimal a m c).z = (adcBinary a m c).z := by
  simp [adcDecimal, adcBinary, Bool.beq_eq_decide_eq, ← BitVec.toNat_inj]

theorem isBcd_iff (b : Byte) : isBcd b = true ↔ b.toNat % 16 < 10 ∧ b.toNat / 16 < 10 := by
  simp [isBcd]

/-- R322: the digits of a sum of decimal digits. -/
theorem addDigit_of_lt_twenty {n : Nat} (h : n < 20) :
    addDigit n < 10 ∧ addDigit n + 10 * (if 10 ≤ n then 1 else 0) = n := by
  unfold addDigit
  split <;> omega

/-- R322: the sum of two packed decimal numbers. -/
theorem adcDecimal_bcd {a m : Byte} (c : Bool) (ha : isBcd a = true) (hm : isBcd m = true) :
    isBcd (adcDecimal a m c).value = true ∧
      bcdValue (adcDecimal a m c).value + 100 * (adcDecimal a m c).c.toNat =
        bcdValue a + bcdValue m + c.toNat := by
  rw [isBcd_iff] at ha hm ⊢
  have hc := c.toNat_le
  obtain ⟨hl, hlsum⟩ := addDigit_of_lt_twenty (n := lowSum a m c) (by unfold lowSum; omega)
  obtain ⟨hh, hhsum⟩ := addDigit_of_lt_twenty (n := highSum a m c) (by unfold highSum; split <;> omega)
  rw [bcdValue, bcdValue, bcdValue, adcDecimal_value, adcDecimal_carry, toNat_decide]
  have hls : lowSum a m c = a.toNat % 16 + m.toNat % 16 + c.toNat := rfl
  have hhs : highSum a m c = a.toNat / 16 + m.toNat / 16 + if 10 ≤ lowSum a m c then 1 else 0 := rfl
  omega

/-- Settles O32: the intermediate sum is the high sum above the corrected low digit, and from this the result and
each flag. -/
theorem decimalAddOfDigitsIsDecimalAddition : Obligations.DecimalAddOfDigitsIsDecimalAddition := by
  intro a m c r lo half hi
  have hval : r.value.toNat = 16 * addDigit hi + addDigit lo := adcDecimal_value a m c
  have hlo := addDigit_lt lo
  have hcarry : r.c = decide (10 ≤ hi) := adcDecimal_carry a m c
  have hneg : r.n = decide (8 ≤ hi % 16) := adcDecimal_negative a m c
  refine ⟨?_, ?_, by rw [hcarry, decide_eq_true_eq], by rw [hneg, decide_eq_true_eq], ?_,
    adcDecimal_zero a m c, adcDecimal_bcd c⟩
  · change r.value.toNat % 16 = addDigit lo
    omega
  · change r.value.toNat / 16 = addDigit hi
    omega
  · have hhalf : half ≤ 1 := by
      simp only [half]
      split <;> omega
    have ha := a.isLt
    have hm := m.isLt
    have hhi : highSum a m c = a.toNat / 16 + m.toNat / 16 + half := rfl
    refine (adcDecimal_overflow a m c).trans ?_
    rw [hhi, toInt_byte, toInt_byte]
    clear_value half
    split <;> split <;> omega

/-! ### Decimal subtract -/

/-- R324: a digit of the result, from the difference of the two digits and the borrow from them. -/
def subDigit (n : Int) : Int := if n < 0 then (n - 6) % 16 else n

/-- R324: the difference of the low digits and the borrow in. -/
def lowDiff (a m : Byte) (c : Bool) : Int := a.toNat % 16 - m.toNat % 16 - (1 - c.toNat)

/-- R324: the difference of the high digits and the borrow of the low ones. -/
def highDiff (a m : Byte) (c : Bool) : Int :=
  a.toNat / 16 - m.toNat / 16 - if lowDiff a m c < 0 then 1 else 0

theorem lowDiff_lt (a m : Byte) (c : Bool) : lowDiff a m c < 16 := by
  have hc := c.toNat_le
  unfold lowDiff
  omega

theorem highDiff_bounds (a m : Byte) (c : Bool) : -16 ≤ highDiff a m c ∧ highDiff a m c < 16 := by
  have ha := a.isLt
  have hm := m.isLt
  unfold highDiff
  split <;> omega

theorem subDigit_bounds {n : Int} (h : n < 16) : 0 ≤ subDigit n ∧ subDigit n < 16 := by
  unfold subDigit
  split <;> omega

/-- R324: the intermediate difference has the high difference above the corrected low digit. -/
theorem sbcDecimalMid_eq (a m : Byte) (c : Bool) :
    ((a.toNat / 16 * 16 : Nat) : Int) - (m.toNat / 16 * 16 : Nat) + sbcDecimalLow a m c =
      16 * highDiff a m c + subDigit (lowDiff a m c) := by
  have hal : ((a.toNat % 16 : Nat) : Int) - (m.toNat % 16 : Nat) + (c.toNat : Nat) - 1 = lowDiff a m c := by
    unfold lowDiff
    omega
  rw [sbcDecimalLow, hal, highDiff, subDigit]
  split <;> omega

theorem sbcDecimal_value (a m : Byte) (c : Bool) :
    ((sbcDecimal a m c).value.toNat : Int) = 16 * subDigit (highDiff a m c) + subDigit (lowDiff a m c) := by
  obtain ⟨hd, hd'⟩ := subDigit_bounds (lowDiff_lt a m c)
  obtain ⟨hh, hh'⟩ := highDiff_bounds a m c
  have hdigit : subDigit (highDiff a m c) =
      if highDiff a m c < 0 then (highDiff a m c - 6) % 16 else highDiff a m c := rfl
  simp only [sbcDecimal, sbcDecimalResult, sbcDecimalMid_eq, BitVec.toNat_ofInt, hdigit]
  split <;> split <;> omega

/-- R324: the digits of a difference of decimal digits. -/
theorem subDigit_of_decimal {n : Int} (hlt : n < 10) (hge : -10 ≤ n) :
    0 ≤ subDigit n ∧ subDigit n < 10 ∧ subDigit n = n + 10 * (if n < 0 then 1 else 0) := by
  unfold subDigit
  split <;> omega

/-- R324: the difference of two packed decimal numbers. -/
theorem sbcDecimal_bcd {a m : Byte} (c : Bool) (ha : isBcd a = true) (hm : isBcd m = true) :
    isBcd (sbcDecimal a m c).value = true ∧
      bcdValue (sbcDecimal a m c).value + bcdValue m + (1 - c.toNat) =
        bcdValue a + 100 * (1 - (sbcDecimal a m c).c.toNat) ∧
      ((sbcDecimal a m c).c = true ↔ bcdValue m + (1 - c.toNat) ≤ bcdValue a) := by
  rw [isBcd_iff] at ha hm ⊢
  have hc := c.toNat_le
  have hld : lowDiff a m c = a.toNat % 16 - m.toNat % 16 - (1 - c.toNat) := rfl
  have hhd : highDiff a m c = a.toNat / 16 - m.toNat / 16 - if lowDiff a m c < 0 then 1 else 0 := rfl
  have hcarry : (sbcDecimal a m c).c = decide (m.toNat + (1 - c.toNat) ≤ a.toNat) := sbcBinary_carry a m c
  have hval := sbcDecimal_value a m c
  obtain ⟨hl, hl', hldig⟩ := subDigit_of_decimal (n := lowDiff a m c) (by omega) (by omega)
  obtain ⟨hh, hh', hhdig⟩ := subDigit_of_decimal (n := highDiff a m c) (by omega) (by omega)
  rw [bcdValue, bcdValue, bcdValue, hcarry, toNat_decide, decide_eq_true_eq]
  refine ⟨by omega, ?_, by omega⟩
  split <;> omega

/-- Settles O33: the intermediate difference is the high difference above the corrected low digit; the flags are
the binary ones. -/
theorem decimalSubtractOfDigitsIsDecimalSubtraction : Obligations.DecimalSubtractOfDigitsIsDecimalSubtraction := by
  intro a m c r b lo hi
  have hval : (r.value.toNat : Int) = 16 * subDigit hi + subDigit lo := sbcDecimal_value a m c
  have hlo : 0 ≤ subDigit lo ∧ subDigit lo < 16 := subDigit_bounds (lowDiff_lt a m c)
  refine ⟨rfl, rfl, rfl, rfl, ?_, ?_, sbcDecimal_bcd c⟩
  · change (r.value.toNat : Int) % 16 = subDigit lo
    omega
  · change (r.value.toNat : Int) / 16 = subDigit hi
    omega

end Sys2Proof.Machine
end

section
/-! The accumulator shifts and rotates and the register increments and decrements (45_shift_rotate_incdec.md R350 to
R354, R357 to R360): a dummy read, and then the ALU primitive of a read-modify-write mnemonic on a register. -/

namespace Sys2Proof.Machine

/-! ### The implied form -/

/-- R202, R203: an instruction after its opcode fetch and the dummy read of the byte behind the opcode, beside the state
`s` at the boundary. -/
def afterDummyRead (i : Instr) (s : State) : State :=
  { s with
    opcode := i.opcode, seq := seqOf i, cursor := 1, wc := false, yield := false, pc := s.pc + 1#16
    bus := { address := s.pc + 1#16, data := s.mem.at (s.pc + 1#16), isWrite := false }
    trace := readEntry s.mem (s.pc + 1#16) :: readEntry s.mem s.pc :: s.trace }

/-- R202, R203: an implied or accumulator instruction from a boundary is its dummy read, and then its operation. -/
theorem exec_implied {i : Instr} {ops : List MicroOp} {s : State} (h : AtBoundary s)
    (hseq : seqOf i = composeImp ++ ops) : exec i s = .next (runToEnd ops (afterDummyRead i s)) := by
  have hread : runPart composeImp (beginInstr i.opcode (seqOf i) (service s)) = afterDummyRead i s := by
    rw [begin_at_boundary h]
    rfl
  rw [exec_at_boundary h, ← hread, ← runToEnd_append, ← hseq]

@[simp] theorem afterDummyRead_p (i : Instr) (s : State) : (afterDummyRead i s).p = s.p := rfl
@[simp] theorem afterDummyRead_pc (i : Instr) (s : State) : (afterDummyRead i s).pc = s.pc + 1#16 := rfl
@[simp] theorem afterDummyRead_mem (i : Instr) (s : State) : (afterDummyRead i s).mem = s.mem := rfl
@[simp] theorem afterDummyRead_fault (i : Instr) (s : State) : (afterDummyRead i s).fault = s.fault := rfl
@[simp] theorem afterDummyRead_faultOpcode (i : Instr) (s : State) :
    (afterDummyRead i s).faultOpcode = s.faultOpcode := rfl
@[simp] theorem afterDummyRead_decimal (i : Instr) (s : State) : (afterDummyRead i s).decimal = s.decimal := rfl
@[simp] theorem afterDummyRead_draws (i : Instr) (s : State) : (afterDummyRead i s).draws = s.draws := rfl
@[simp] theorem afterDummyRead_yield (i : Instr) (s : State) : (afterDummyRead i s).yield = false := rfl

/-- R250: the two transactions of an implied instruction. -/
@[simp] theorem afterDummyRead_trace (i : Instr) (s : State) :
    (afterDummyRead i s).trace = (impliedTrace s).reverse ++ s.trace := rfl

@[simp] theorem reg_afterDummyRead (i : Instr) (s : State) (r : Reg) : (afterDummyRead i s).reg r = s.reg r := by
  cases r <;> rfl

/-! ### An ALU primitive on a register -/

/-- R350: what the last call does: the register to `v`, the ALU primitive, and the result back. -/
theorem runToEnd_regAlu {m : Mnemonic} {src : Source} {r : Reg} (hk : accessKind m = some .rmw)
    (hsrc : sourceReg src = some r) {u : State} (hy : u.yield = false) :
    let new := rmwResult m (u.reg r) (getFlag u.p .c)
    runToEnd [.vFrom src, rmwOp m, .vTo r] u =
      { u.setReg r new with
        v := new, p := rmwStatus m u.p (u.reg r), cursor := u.cursor + 3
        bus := { u.bus with address := u.pc, isWrite := false } } := by
  simp only [runToEnd, tick, runMicro_rmwOp hk]
  cases r <;> simp [runMicro, State.setReg, queueFetch, source_of_sourceReg hsrc, hy]

/-- R350: what an instruction does from a boundary that runs the ALU primitive of `m` on the register `r`. -/
theorem exec_regAlu_spec {i : Instr} {m : Mnemonic} {src : Source} {r : Reg} {s : State} (h : AtBoundary s)
    (hk : accessKind m = some .rmw) (hsrc : sourceReg src = some r) (hlen : i.length = 1)
    (hseq : seqOf i = regSeq src (rmwOp m) r) :
    ∃ t, exec i s = .next t ∧ AtBoundary t ∧
      (let new := rmwResult m (s.reg r) (getFlag s.p .c);
        t.reg r = new ∧ NZOf t new) ∧
      getFlag t.p .c = rmwCarry m (s.reg r) (getFlag s.p .c) ∧
      Kept [r] [.n, .z, .c] [] s t ∧ PcAdvanced i s t ∧ TraceIs s t (impliedTrace s) := by
  have hu := exec_implied h hseq
  rw [runToEnd_regAlu hk hsrc (afterDummyRead_yield i s), reg_afterDummyRead, afterDummyRead_p] at hu
  have hreg (b : Byte) (q : Reg) : ((afterDummyRead i s).setReg r b).reg q = if q = r then b else s.reg q := by simp
  exact ⟨_, hu, exec_boundary h hu, ⟨(hreg _ r).trans (if_pos rfl), by simp [NZOf, rmwStatus]⟩, by simp [rmwStatus],
    ⟨fun q hq => (hreg _ q).trans (if_neg (by simpa using hq)), ⟨getFlag_rmwStatus _ _ _, by simp [rmwStatus]⟩,
      fun b _ => by simp, by simp [ModeKept], by simp⟩,
    by simp [PcAdvanced, hlen], by simp [TraceIs]⟩

/-- Settles O39: each row of the list runs its mnemonic's ALU primitive on A. -/
theorem accumulatorShifts : Obligations.AccumulatorShifts := by
  intro op i hrow
  fin_cases hrow <;> exact ⟨rfl, fun s h => exec_regAlu_spec (r := .a) h rfl rfl rfl rfl⟩

/-- R184, R185, R357 to R360: what an instruction does from a boundary whose ALU primitive adds `d` to a register and
leaves the carry alone. -/
theorem exec_regAdd_spec {i : Instr} {m : Mnemonic} {src : Source} {r : Reg} {d : Byte} {s : State} (h : AtBoundary s)
    (hk : accessKind m = some .rmw) (hsrc : sourceReg src = some r) (hlen : i.length = 1)
    (hseq : seqOf i = regSeq src (rmwOp m) r) (hadd : ∀ b c, rmwResult m b c = b + d)
    (hcarry : ∀ b c, rmwCarry m b c = c) :
    ∃ t, exec i s = .next t ∧ AtBoundary t ∧ t.reg r = s.reg r + d ∧ NZOf t (s.reg r + d) ∧
      Kept [r] [.n, .z] [] s t ∧ PcAdvanced i s t ∧ TraceIs s t (impliedTrace s) := by
  obtain ⟨t, ht, hb, ⟨hr, hnz⟩, hc, ⟨hregs, ⟨hflags, hres⟩, hrest⟩, hpc, htrace⟩ :=
    exec_regAlu_spec h hk hsrc hlen hseq
  rw [hadd] at hr hnz
  rw [hcarry] at hc
  refine ⟨t, ht, hb, hr, hnz, ⟨hregs, ⟨fun f hf => ?_, hres⟩, hrest⟩, hpc, htrace⟩
  by_cases hfc : f = .c
  · rw [hfc, hc]
  · exact hflags f (by simpa [hfc] using hf)

/-- Settles O41: INX and INY run INC's ALU primitive on their register, DEX and DEY run DEC's. -/
theorem registerIncrementsAndDecrements : Obligations.RegisterIncrementsAndDecrements := by
  have inc_adds (b : Byte) (c : Bool) : rmwResult .inc b c = b + 1#8 := rfl
  have dec_adds (b : Byte) (c : Bool) : rmwResult .dec b c = b + -1#8 := BitVec.sub_eq_add_neg b 1#8
  intro op i r d hrow
  fin_cases hrow
  · exact ⟨rfl, fun s h => exec_regAdd_spec h rfl rfl rfl rfl inc_adds fun _ _ => rfl⟩
  · exact ⟨rfl, fun s h => exec_regAdd_spec h rfl rfl rfl rfl inc_adds fun _ _ => rfl⟩
  · exact ⟨rfl, fun s h => exec_regAdd_spec h rfl rfl rfl rfl dec_adds fun _ _ => rfl⟩
  · exact ⟨rfl, fun s h => exec_regAdd_spec h rfl rfl rfl rfl dec_adds fun _ _ => rfl⟩

end Sys2Proof.Machine
end

section
/-! The register transfers, the flag instructions and NOP (46_transfer_flag_nop.md R370 to R384): a dummy read, and then
an operation that works on the registers, P and `v` alone. -/

namespace Sys2Proof.Machine

/-! ### An operation on the registers and P -/

/-- R202, R370: what a one-byte instruction does from a boundary whose operation leaves `q` in the registers and P: it
makes the two reads of the implied mode, and keeps what `q` keeps of `s`. -/
theorem exec_implied_spec {i : Instr} {ops : List MicroOp} {n : Nat} {rs : List Reg} {fs : List Flag} {s q : State}
    (h : AtBoundary s) (hlen : i.length = 1) (hseq : seqOf i = composeImp ++ ops)
    (hops : runToEnd ops (afterDummyRead i s) = queueFetch { (afterDummyRead i s).withAlu q with cursor := n })
    (hregs : RegsBut rs s q) (hflags : FlagsBut fs s q) (hdecimal : q.decimal = s.decimal)
    (hdraws : q.draws = s.draws) :
    ∃ t, exec i s = .next t ∧ AtBoundary t ∧ (∀ r, t.reg r = q.reg r) ∧ t.p = q.p ∧ Kept rs fs [] s t ∧
      PcAdvanced i s t ∧ TraceIs s t (impliedTrace s) := by
  have ht := exec_implied h hseq
  rw [hops] at ht
  have hreg (r : Reg) : (queueFetch { (afterDummyRead i s).withAlu q with cursor := n }).reg r = q.reg r := by
    cases r <;> rfl
  exact ⟨_, ht, exec_boundary h ht, hreg, rfl,
    ⟨fun r hr => (hreg r).trans (hregs r hr), hflags, fun _ _ => rfl, ⟨rfl, rfl, hdecimal⟩, hdraws⟩,
    by rw [PcAdvanced, hlen]; rfl, rfl⟩

/-! ### Transfers -/

/-- `s` with the byte of the register `src` in the register `dst` and in `v`. -/
def State.copy (s : State) (src dst : Reg) : State := { s.setReg dst (s.reg src) with v := s.reg src }

@[simp] theorem copy_p (s : State) (src dst : Reg) : (s.copy src dst).p = s.p := by cases dst <;> rfl
@[simp] theorem copy_decimal (s : State) (src dst : Reg) : (s.copy src dst).decimal = s.decimal := setReg_decimal _ _ _
@[simp] theorem copy_draws (s : State) (src dst : Reg) : (s.copy src dst).draws = s.draws := setReg_draws _ _ _

@[simp] theorem reg_copy (s : State) (src dst r : Reg) :
    (s.copy src dst).reg r = if r = dst then s.reg src else s.reg r :=
  reg_setReg s dst r (s.reg src)

/-- R165: a copy changes no register but its destination. -/
theorem regsBut_copy (s : State) (src dst : Reg) : RegsBut [dst] s (s.copy src dst) := by
  intro r hr
  rw [reg_copy, if_neg (by simpa using hr)]

/-- R164, R165: a transfer's first two micro-ops copy the register `r` to the register `dst`. -/
theorem runToEnd_copy {src : Source} {r : Reg} (hsrc : sourceReg src = some r) (dst : Reg) (ops : List MicroOp)
    (i : Instr) (s : State) :
    runToEnd (.vFrom src :: .vTo dst :: ops) (afterDummyRead i s) =
      runToEnd ops { (afterDummyRead i s).withAlu (s.copy r dst) with cursor := 3 } := by
  have hv : tick (.vFrom src) (afterDummyRead i s) = { afterDummyRead i s with v := s.reg r, cursor := 2 } := by
    rw [tick, runMicro, source_of_sourceReg hsrc, reg_afterDummyRead]
    rfl
  rw [runToEnd_quiet rfl, hv]
  cases dst <;> rfl

/-- R371 to R375: what a transfer that writes N and Z does from a boundary. -/
theorem exec_transfer_spec {i : Instr} {src : Source} {r dst : Reg} {s : State} (h : AtBoundary s)
    (hsrc : sourceReg src = some r) (hlen : i.length = 1) (hseq : seqOf i = transferSeq src dst) :
    ∃ t, exec i s = .next t ∧ AtBoundary t ∧ t.reg dst = s.reg r ∧ NZOf t (s.reg r) ∧
      Kept [dst] [.n, .z] [] s t ∧ PcAdvanced i s t ∧ TraceIs s t (impliedTrace s) := by
  have hq : (runMicro .nzV (s.copy r dst)).p = setNZ s.p (s.reg r) := by
    rw [← copy_p s r dst]
    rfl
  obtain ⟨t, ht, hb, hreg, hp, hrest⟩ :=
    exec_implied_spec h hlen hseq (runToEnd_copy hsrc dst [.nzV] i s) (q := runMicro .nzV (s.copy r dst))
      (regsBut_copy s r dst) (flagsBut_of_setNZ hq) (copy_decimal s r dst) (copy_draws s r dst)
  exact ⟨t, ht, hb, (hreg dst).trans ((reg_copy s r dst dst).trans (if_pos rfl)), by simp [NZOf, hp, hq], hrest⟩

/-- Settles O42: each row of the list is the transfer from the row's source to its destination. -/
theorem transfersCopyAndSetNZ : Obligations.TransfersCopyAndSetNZ := by
  intro op i src dst hrow
  fin_cases hrow <;> exact ⟨rfl, fun s h => exec_transfer_spec h rfl rfl rfl⟩

/-- Settles O43: TXS copies X to S, and no micro-op of flags follows. -/
theorem txsSetsTheStackPointerAndNoFlag : Obligations.TxsSetsTheStackPointerAndNoFlag := by
  refine ⟨rfl, fun s h => ?_⟩
  obtain ⟨t, ht, hb, hreg, hp, hkept, hrest⟩ :=
    exec_implied_spec (i := .txs) (q := s.copy .x .s) h rfl rfl (runToEnd_copy rfl .s [] _ s) (regsBut_copy s .x .s)
      ⟨fun _ _ => rfl, rfl⟩ rfl rfl
  exact ⟨t, ht, hb, hreg .s, hkept, hp, hrest⟩

/-! ### Flag instructions and NOP -/

/-- R170: a write of one flag keeps every other flag, and bits 5 and 4. -/
theorem flagsBut_setFlag (s : State) (f : Flag) (b : Bool) : FlagsBut [f] s { s with p := setFlag s.p f b } := by
  refine ⟨fun g hg => ?_, reservedBits_setFlag s.p f b⟩
  rw [getFlag_setFlag, if_neg (by simpa using hg)]

/-- R377 to R383: what a flag instruction does from a boundary. -/
theorem exec_flag_spec {i : Instr} {f : Flag} {b : Bool} {s : State} (h : AtBoundary s) (hlen : i.length = 1)
    (hseq : seqOf i = flagSeq f b) :
    ∃ t, exec i s = .next t ∧ AtBoundary t ∧ getFlag t.p f = b ∧ Kept [] [f] [] s t ∧ PcAdvanced i s t ∧
      TraceIs s t (impliedTrace s) := by
  obtain ⟨t, ht, hb, -, hp, hrest⟩ :=
    exec_implied_spec (q := { s with p := setFlag s.p f b }) h hlen hseq rfl (rs := []) (fun r _ => by cases r <;> rfl)
      (flagsBut_setFlag s f b) rfl rfl
  exact ⟨t, ht, hb, by simp [hp], hrest⟩

/-- Settles O44: each row of the list writes the row's flag. -/
theorem flagInstructionsWriteOneFlag : Obligations.FlagInstructionsWriteOneFlag := by
  intro op i f b hrow
  fin_cases hrow <;> exact ⟨rfl, fun s h => exec_flag_spec h rfl rfl⟩

/-- Settles O45: NOP's operation leaves the boundary state's registers and P as they are, and the fetch that is then
pending is at the new PC. -/
theorem nopOnlyAdvancesPc : Obligations.NopOnlyAdvancesPc := by
  refine ⟨rfl, fun s h => ?_⟩
  obtain ⟨t, ht, hb, -, hp, hkept, hpc, htrace⟩ :=
    exec_implied_spec (i := .nop) (q := s) (rs := []) (fs := []) h rfl rfl rfl (fun _ _ => rfl) ⟨fun _ _ => rfl, rfl⟩
      rfl rfl
  have ⟨_, _, _, _, _, hbus⟩ := hb
  exact ⟨t, ht, hb, hkept, hp, hpc, hbus.trans hpc, htrace⟩

end Sys2Proof.Machine
end

section
/-! The branches (47_branch.md R390 to R399): the offset read that every branch makes, and then the three micro-ops that
test the flag, make the dummy reads and set PC. -/

namespace Sys2Proof.Machine

/-! ### The micro-ops after the offset read -/

/-- R175 to R177: the micro-ops of a branch after its offset is in `v`. -/
def branchTail (f : Flag) (b : Bool) : List MicroOp := [.brTest f b, .brFix, .brCommit]

/-- R175: where a branch goes from a state with PC at the next instruction and the offset in `v`. -/
def branchLanding (f : Flag) (b : Bool) (u : State) : Addr :=
  if getFlag u.p f = b then u.pc + sext16 u.v else u.pc

/-- R391: the dummy reads of a branch, from the same state. -/
def branchDummyReads (f : Flag) (b : Bool) (u : State) : List Bus :=
  let target := u.pc + sext16 u.v
  if getFlag u.p f = b then
    if hi8 target = hi8 u.pc then [readEntry u.mem u.pc]
    else [readEntry u.mem u.pc, readEntry u.mem (mk16 (hi8 u.pc) (lo8 target))]
  else []

/-- `u` after a branch that has made the dummy reads `es`, with the fetch at `pc` pending and `d` still in the bus
record. -/
def State.land (u : State) (pc : Addr) (d : Byte) (es : List Bus) : State :=
  { u with
    pc := pc, bt := none, cursor := u.cursor + 3, bus := { address := pc, data := d, isWrite := false }
    trace := es.reverse ++ u.trace }

/-- R175 to R177: a branch not taken ends at once; a taken one reads at the next instruction, and again when `BR_FIX`
finds the target in another page. -/
theorem runToEnd_branchTail (f : Flag) (b : Bool) {u : State} (hy : u.yield = false) :
    ∃ d, runToEnd (branchTail f b) u = u.land (branchLanding f b u) d (branchDummyReads f b u) := by
  by_cases htaken : getFlag u.p f = b
  · refine ⟨u.mem.at (if hi8 (u.pc + sext16 u.v) = hi8 u.pc then u.pc
      else mk16 (hi8 u.pc) (lo8 (u.pc + sext16 u.v))), ?_⟩
    by_cases hpage : hi8 (u.pc + sext16 u.v) = hi8 u.pc <;>
      simp [branchTail, runToEnd, tick, runMicro, brTestStep, brFixStep, brCommitStep, busRead, clearYield, service,
        queueFetch, State.land, branchLanding, branchDummyReads, readEntry, htaken, hpage, hy]
  · refine ⟨u.bus.data, ?_⟩
    simp [branchTail, runToEnd, tick, runMicro, brTestStep, brFixStep, brCommitStep, queueFetch, State.land,
      branchLanding, branchDummyReads, htaken, hy]

/-! ### A branch from a boundary -/

/-- R390: a branch after its opcode fetch and offset read, with the offset in `v` and PC at the next instruction, beside
the state `s` at the boundary. -/
def afterOffsetRead (i : Instr) (s : State) : State :=
  { afterDummyRead i s with pc := s.pc + 2#16, v := byte1 s, cursor := 2 }

@[simp] theorem afterOffsetRead_p (i : Instr) (s : State) : (afterOffsetRead i s).p = s.p := rfl
@[simp] theorem afterOffsetRead_pc (i : Instr) (s : State) : (afterOffsetRead i s).pc = s.pc + 2#16 := rfl
@[simp] theorem afterOffsetRead_v (i : Instr) (s : State) : (afterOffsetRead i s).v = byte1 s := rfl
@[simp] theorem afterOffsetRead_mem (i : Instr) (s : State) : (afterOffsetRead i s).mem = s.mem := rfl

/-- R390: a branch from a boundary is its offset read, and then its test. -/
theorem exec_branch {i : Instr} {f : Flag} {b : Bool} {s : State} (h : AtBoundary s) (hseq : seqOf i = branchSeq f b) :
    exec i s = .next (runToEnd (branchTail f b) (afterOffsetRead i s)) := by
  have hread : runPart (composeImm ++ [.ldV]) (beginInstr i.opcode (seqOf i) (service s)) = afterOffsetRead i s := by
    have hpc : s.pc + 1#16 + 1#16 = s.pc + 2#16 := BitVec.add_assoc ..
    rw [begin_at_boundary h, afterOffsetRead, ← hpc]
    rfl
  have hsplit : seqOf i = (composeImm ++ [.ldV]) ++ branchTail f b := hseq
  rw [exec_at_boundary h, ← hread, ← runToEnd_append, ← hsplit]

/-- R390: a branch keeps everything but PC, wherever it lands and whatever dummy reads it makes. -/
theorem land_afterOffsetRead_kept (i : Instr) (s : State) (pc : Addr) (d : Byte) (es : List Bus) :
    Kept [] [] [] s ((afterOffsetRead i s).land pc d es) :=
  ⟨fun r _ => by cases r <;> rfl, ⟨fun _ _ => rfl, rfl⟩, fun _ _ => rfl, ⟨rfl, rfl, rfl⟩, rfl⟩

/-- R391 to R399: what a branch does from a boundary. -/
theorem exec_branch_spec {i : Instr} {f : Flag} {b : Bool} {s : State} (h : AtBoundary s)
    (hseq : seqOf i = branchSeq f b) :
    ∃ t, exec i s = .next t ∧ AtBoundary t ∧ Kept [] [] [] s t ∧
      t.pc = branchLanding f b (afterOffsetRead i s) ∧
      TraceIs s t ([readEntry s.mem s.pc, readEntry s.mem (s.pc + 1#16)] ++
        branchDummyReads f b (afterOffsetRead i s)) := by
  have ht := exec_branch h hseq
  obtain ⟨d, hd⟩ := runToEnd_branchTail f b (u := afterOffsetRead i s) rfl
  rw [hd] at ht
  refine ⟨_, ht, exec_boundary h ht, land_afterOffsetRead_kept .., rfl, ?_⟩
  rw [TraceIs, List.reverse_append, List.append_assoc]
  rfl

/-- Settles O46: each row of the list tests the row's flag for the row's value, and the cases of the statement are
those of the landing and of the dummy reads. -/
theorem branchesTestTheirFlag : Obligations.BranchesTestTheirFlag := by
  intro op i f b hrow
  have hi : i.opcode = op ∧ seqOf i = branchSeq f b := by
    fin_cases hrow <;> exact ⟨rfl, rfl⟩
  obtain ⟨hop, hseq⟩ := hi
  refine ⟨hop, fun s h => ?_⟩
  obtain ⟨t, ht, hb, hkept, hpc, htrace⟩ := exec_branch_spec h hseq
  refine ⟨t, ht, hb, hkept, fun hnot => ⟨?_, ?_⟩, fun htaken => ⟨?_, fun hsame => ?_, fun hcrossed => ?_⟩⟩
  · simpa [branchLanding, hnot] using hpc
  · simpa [branchDummyReads, hnot] using htrace
  · simpa [branchLanding, htaken] using hpc
  · simpa [branchDummyReads, htaken, hsame] using htrace
  · simpa [branchDummyReads, htaken, hcrossed] using htrace

end Sys2Proof.Machine
end

section
/-! The stack and flow-control instructions (48_stack.md R400 to R403, 49_flow_control.md R410 to R414): the stack's three
operations (R171 to R173) and the loads of PC as rules about a run, each instruction as a run of these rules from the
boundary, and the pairs of instructions that undo each other. -/

namespace Sys2Proof.Machine

/-! ### Arithmetic of the stack pointer -/

/-- R162: two increments of S. -/
theorem add_two_eq (b : Byte) : b + 2#8 = b + 1#8 + 1#8 := by bv_omega

/-- R162: three increments of S. -/
theorem add_three_eq (b : Byte) : b + 3#8 = b + 1#8 + 1#8 + 1#8 := by bv_omega

/-- R163: two decrements of S. -/
theorem sub_two_eq (b : Byte) : b - 2#8 = b - 1#8 - 1#8 := by bv_omega

/-- R163: three decrements of S. -/
theorem sub_three_eq (b : Byte) : b - 3#8 = b - 1#8 - 1#8 - 1#8 := by bv_omega

/-- R36: a push does not write where the push before it wrote. -/
theorem stackAddr_ne_sub_one (b : Byte) : stackAddr b ≠ stackAddr (b - 1#8) := by
  rw [ne_eq, stackAddr_inj]
  bv_omega

/-- R36: a push does not write where the push two before it wrote. -/
theorem stackAddr_ne_sub_two (b : Byte) : stackAddr b ≠ stackAddr (b - 1#8 - 1#8) := by
  rw [ne_eq, stackAddr_inj]
  bv_omega

/-! ### The stack's operations -/

/-- R171: `u` after a serviced push of `b`. -/
def State.pushByte (u : State) (b : Byte) : State :=
  { u with
    v := b, w := stackAddr u.sp, sp := u.sp - 1#8, cursor := u.cursor + 4, yield := false
    mem := u.mem.put (stackAddr u.sp) b, bus := writeEntry (stackAddr u.sp) b
    trace := writeEntry (stackAddr u.sp) b :: u.trace }

/-- R173: `u` after a serviced read of the byte that S points at. -/
def State.peekByte (u : State) : State :=
  { u with
    w := stackAddr u.sp, cursor := u.cursor + 2, yield := false, bus := readEntry u.mem (stackAddr u.sp)
    trace := readEntry u.mem (stackAddr u.sp) :: u.trace }

/-- R172: `u` after a serviced pull, with the pulled byte on the bus. -/
def State.pullByte (u : State) : State :=
  { u with sp := u.sp + 1#8, cursor := u.cursor + 1 }.peekByte

/-- R171: a push. -/
theorem runToEnd_push (src : Source) (ops : List MicroOp) {u : State} (hy : u.yield = false) :
    runToEnd (push src ++ ops) u = runToEnd ops (u.pushByte (u.source src)) := by
  simp [push, runToEnd, tick, runMicro, busWrite, clearYield, service, State.pushByte, writeEntry, hy]

/-- R173: the stack's dummy read. -/
theorem runToEnd_stkDummy (ops : List MicroOp) {u : State} (hy : u.yield = false) :
    runToEnd (stkDummy ++ ops) u = runToEnd ops u.peekByte := by
  simp [stkDummy, runToEnd, tick, runMicro, busRead, clearYield, service, State.peekByte, readEntry, hy]

/-- R172: a pull. -/
theorem runToEnd_pull (ops : List MicroOp) {u : State} (hy : u.yield = false) :
    runToEnd (pull ++ ops) u = runToEnd ops u.pullByte := by
  simp [pull, runToEnd, tick, runMicro, busRead, clearYield, service, State.pullByte, State.peekByte, readEntry, hy]

/-! ### A load of PC -/

/-- R154: `u` after PC is loaded from the byte read at `a` and the latch `v2`, with the fetch at the new PC pending. -/
def State.loadPc (u : State) (a : Addr) : State :=
  { u with
    pc := mk16 (u.mem.at a) u.v2, cursor := u.cursor + 2, yield := false
    bus := { address := mk16 (u.mem.at a) u.v2, data := u.mem.at a, isWrite := false }
    trace := readEntry u.mem a :: u.trace }

/-- R142, R154: PC loaded with its high byte from the program. -/
theorem runToEnd_rdPc_ldPc (u : State) : runToEnd [.rdPc, .ldPc] u = u.loadPc u.pc := by
  simp [runToEnd, tick, runMicro, busRead, clearYield, service, queueFetch, State.loadPc, readEntry]

/-! ### Frames -/

/-- R36: what leaves A, X and Y changes at most S. -/
theorem regsBut_s {s t : State} (ha : t.a = s.a) (hx : t.x = s.x) (hy : t.y = s.y) : RegsBut [.s] s t := by
  intro r hr
  cases r with
  | a => exact ha
  | x => exact hx
  | y => exact hy
  | s => exact absurd (List.mem_singleton_self _) hr

/-- R32 to R34, R36: with S back where it was, no register has changed. -/
theorem regsBut_nil {s t : State} (h : RegsBut [.s] s t) (hs : t.sp = s.sp) : RegsBut [] s t := by
  intro r _
  by_cases hr : r = .s
  · rw [hr]
    exact hs
  · exact h r (by simpa using hr)

/-- A chain of two frames. -/
theorem regsBut_trans {rs : List Reg} {s t u : State} (h : RegsBut rs s t) (h' : RegsBut rs t u) : RegsBut rs s u :=
  fun r hr => (h' r hr).trans (h r hr)

/-- R37: what leaves P leaves every flag. -/
theorem flagsBut_of_p_eq {fs : List Flag} {s t : State} (h : t.p = s.p) : FlagsBut fs s t :=
  ⟨fun f _ => congrArg (getFlag · f) h, congrArg reservedBits h⟩

/-! ### PHA, PHP -/

/-- R400, R401: what an instruction does from a boundary that pushes the byte `b`. -/
theorem exec_push_spec {i : Instr} {src : Source} {b : Byte} {s : State} (h : AtBoundary s) (hmem : s.mem.wf = true)
    (hlen : i.length = 1) (hseq : seqOf i = composeImp ++ (push src ++ [.done]))
    (hsrc : (afterDummyRead i s).source src = b) :
    ∃ t, exec i s = .next t ∧ AtBoundary t ∧ t.mem.at (stackAddr s.sp) = b ∧ t.sp = s.sp - 1#8 ∧
      Kept [.s] [] [stackAddr s.sp] s t ∧ t.p = s.p ∧ PcAdvanced i s t ∧
      TraceIs s t (impliedTrace s ++ [writeEntry (stackAddr s.sp) b]) := by
  have ht := exec_implied h hseq
  rw [runToEnd_push _ _ rfl, hsrc] at ht
  exact ⟨_, ht, exec_boundary h ht, Memory.at_put_eq hmem, rfl,
    ⟨regsBut_s rfl rfl rfl, flagsBut_of_p_eq rfl, fun _ ha => Memory.at_put_ne (List.ne_of_not_mem_cons ha),
      ⟨rfl, rfl, rfl⟩, rfl⟩, rfl, by rw [PcAdvanced, hlen]; rfl, rfl⟩

/-- Settles O47: PHA pushes A. -/
theorem phaPushesTheAccumulator : Obligations.PhaPushesTheAccumulator :=
  ⟨rfl, fun _ h hmem => exec_push_spec h hmem rfl rfl rfl⟩

/-- Settles O48: PHP pushes the status read. -/
theorem phpPushesTheStatusWithBitsFiveAndFourSet : Obligations.PhpPushesTheStatusWithBitsFiveAndFourSet :=
  ⟨rfl, fun _ h hmem => exec_push_spec h hmem rfl rfl rfl⟩

/-! ### PLA, PLP -/

/-- R402, R403, R412, R413: an instruction that pulls, from a boundary: its dummy reads, the pull, and then what it does
with the pulled byte. -/
theorem exec_pull {i : Instr} {ops : List MicroOp} {s : State} (h : AtBoundary s)
    (hseq : seqOf i = composeImp ++ (stkDummy ++ (pull ++ ops))) :
    exec i s = .next (runToEnd ops (afterDummyRead i s).peekByte.pullByte) := by
  rw [exec_implied h hseq, runToEnd_stkDummy _ rfl, runToEnd_pull _ rfl]

/-- Settles O49: the pulled byte is loaded into A as a load's operand is. -/
theorem plaPullsTheAccumulator : Obligations.PlaPullsTheAccumulator := by
  refine ⟨rfl, fun s h => ?_⟩
  have ht := exec_pull (i := .pla) (ops := .ldV :: loadOp .a) h rfl
  rw [runToEnd_quiet rfl, runToEnd_loadOp .a rfl] at ht
  refine ⟨_, ht, exec_boundary h ht, ⟨rfl, ?_⟩, rfl, ⟨?_, flagsBut_of_setNZ rfl, fun _ _ => rfl, ⟨rfl, rfl, rfl⟩, rfl⟩,
    rfl, rfl⟩
  · rw [NZOf, getFlag_setNZ, getFlag_setNZ]
    exact ⟨rfl, rfl⟩
  · intro r hr
    cases r with
    | a | s => exact absurd hr (by decide)
    | x | y => rfl

/-- Settles O50: the pulled byte goes to P by the whole-byte write. -/
theorem plpPullsTheStatus : Obligations.PlpPullsTheStatus := by
  refine ⟨rfl, fun s h => ?_⟩
  have ht := exec_pull (i := .plp) (ops := [.ldV, .pFromV]) h rfl
  exact ⟨_, ht, exec_boundary h ht, rfl, rfl, regsBut_s rfl rfl rfl, fun _ _ => rfl, ⟨rfl, rfl, rfl⟩, rfl, rfl, rfl⟩

/-- Settles O58: PLP pulls the byte that PHP pushed, and from it takes every flag. -/
theorem phpThenPlpRestoresTheFlags : Obligations.PhpThenPlpRestoresTheFlags := by
  intro s h hmem
  obtain ⟨t, ht, hb, hpush, hsp, ⟨hregs, -⟩, -⟩ := phpPushesTheStatusWithBitsFiveAndFourSet.2 s h hmem
  obtain ⟨u, hu, hb', hp, hsp', hregs', -⟩ := plpPullsTheStatus.2 t hb
  have hback : t.sp + 1#8 = s.sp := by rw [hsp, BitVec.sub_add_cancel]
  rw [hback] at hp hsp'
  rw [hpush] at hp
  exact ⟨t, u, ht, hu, hb', regsBut_nil (regsBut_trans hregs hregs') hsp', hp.trans (pulled_pushed s.p)⟩

/-! ### The operand read -/

/-- R204: an instruction after its opcode fetch and the read of the byte behind it, with PC past that byte, beside the
state `s` at the boundary. -/
def afterByteRead (i : Instr) (s : State) : State := { afterDummyRead i s with pc := s.pc + 2#16 }

/-- R410, R411, R414: a jump, JSR or BRK from a boundary is its first operand read, and then its operation. -/
theorem exec_byteRead {i : Instr} {ops : List MicroOp} {s : State} (h : AtBoundary s)
    (hseq : seqOf i = composeImm ++ ops) : exec i s = .next (runToEnd ops (afterByteRead i s)) := by
  have hread : runPart composeImm (beginInstr i.opcode (seqOf i) (service s)) = afterByteRead i s := by
    have hpc : s.pc + 1#16 + 1#16 = s.pc + 2#16 := BitVec.add_assoc ..
    rw [begin_at_boundary h, afterByteRead, ← hpc]
    rfl
  rw [exec_at_boundary h, ← hread, ← runToEnd_append, ← hseq]

/-! ### JMP -/

/-- R410: JMP absolute. -/
theorem exec_jmpAbs_spec {s : State} (h : AtBoundary s) :
    ∃ t, exec .jmpAbs s = .next t ∧ AtBoundary t ∧ t.pc = word12 s ∧ Kept [] [] [] s t ∧ t.p = s.p ∧
      TraceIs s t ([s.pc, s.pc + 1#16, s.pc + 2#16].map (readEntry s.mem)) := by
  have ht := exec_byteRead (i := .jmpAbs) (ops := [.ldV2, .rdPc, .ldPc]) h rfl
  rw [runToEnd_quiet rfl, runToEnd_rdPc_ldPc] at ht
  exact ⟨_, ht, exec_boundary h ht, rfl,
    ⟨regsBut_nil (regsBut_s rfl rfl rfl) rfl, flagsBut_of_p_eq rfl, fun _ _ => rfl, ⟨rfl, rfl, rfl⟩, rfl⟩, rfl, rfl⟩

/-- R155, R410: JMP indirect with the low byte at the pointer `w` on the bus: PC loaded with the high byte from the next
address in the pointer's page. -/
theorem runToEnd_pointerHigh {u : State} (hy : u.yield = false) :
    runToEnd [.ldV2, .incWPage, .rdW, .ldPc] u =
      { u with v2 := u.bus.data, w := mk16 (hi8 u.w) (lo8 u.w + 1#8), cursor := u.cursor + 2 }.loadPc
        (mk16 (hi8 u.w) (lo8 u.w + 1#8)) := by
  simp [runToEnd, tick, runMicro, busRead, clearYield, service, queueFetch, State.loadPc, readEntry, hy]

/-- R410: JMP indirect: an absolute read of the low byte at the pointer, and then the high byte. -/
theorem exec_jmpInd_spec {s : State} (h : AtBoundary s) :
    ∃ t, exec .jmpInd s = .next t ∧ AtBoundary t ∧
      (let ptr := word12 s;
        let ptr' := mk16 (hi8 ptr) (lo8 ptr + 1#8)
        t.pc = mk16 (s.mem.at ptr') (s.mem.at ptr) ∧
          TraceIs s t ([s.pc, s.pc + 1#16, s.pc + 2#16, ptr, ptr'].map (readEntry s.mem))) ∧
      Kept [] [] [] s t ∧ t.p = s.p := by
  obtain ⟨u, C, ht⟩ : ∃ u, Composed .abs .read s u ∧
      exec .jmpInd s = .next (runToEnd [.ldV2, .incWPage, .rdW, .ldPc] u) := by
    refine ⟨_, compose_abs h (Instr.opcode .jmpInd) (seqOf .jmpInd) .read, ?_⟩
    rw [exec_at_boundary h, ← runToEnd_append]
    rfl
  rw [runToEnd_pointerHigh C.yield] at ht
  have hw : u.w = word12 s := C.w _ rfl
  have hlo : u.bus.data = s.mem.at (word12 s) := (Option.some.inj (C.data nofun)).symm
  refine ⟨_, ht, exec_boundary h ht, ⟨?_, ?_⟩,
    ⟨fun r _ => ?_, flagsBut_of_p_eq C.p, fun a _ => congrArg (Memory.at · a) C.mem,
      ⟨C.fault, C.faultOpcode, C.decimal⟩, C.draws⟩, C.p⟩
  · change mk16 (u.mem.at (mk16 (hi8 u.w) (lo8 u.w + 1#8))) u.bus.data = _
    rw [C.mem, hw, hlo]
  · change readEntry u.mem (mk16 (hi8 u.w) (lo8 u.w + 1#8)) :: u.trace = _
    rw [C.mem, C.trace, hw]
    rfl
  · rw [← C.reg r]
    cases r <;> rfl

/-- Settles O51: the two forms of JMP. -/
theorem jmpLoadsPc : Obligations.JmpLoadsPc :=
  ⟨⟨rfl, fun _ h => exec_jmpAbs_spec h⟩, rfl, fun _ h => exec_jmpInd_spec h⟩

/-! ### JSR, RTS -/

/-- R84: one more write to the list of those that a read does not see. -/
theorem Memory.at_put_of_not_mem {m : Memory} {as : List Addr} {a b : Addr} {v w : Byte} (hm : b ∉ as → m.at b = w)
    (h : b ∉ as ++ [a]) : (m.put a v).at b = w := by
  rw [List.mem_append, List.mem_singleton, not_or] at h
  obtain ⟨has, ha⟩ := h
  rw [Memory.at_put_ne ha, hm has]

/-- R84: a read that sees neither of two writes. -/
theorem Memory.at_put_put_of_not_mem {m : Memory} {a a' b : Addr} {v v' : Byte} (h : b ∉ [a, a']) :
    ((m.put a v).put a' v').at b = m.at b :=
  Memory.at_put_of_not_mem (as := [a]) (Memory.at_put_of_not_mem (as := []) fun _ => rfl) h

/-- Settles O52: the pushes go to two bytes, and the high byte of the target is read from the memory they leave. -/
theorem jsrPushesTheReturnAddress : Obligations.JsrPushesTheReturnAddress := by
  refine ⟨rfl, fun s h hmem => ?_⟩
  have ht := exec_byteRead (i := .jsrAbs)
    (ops := .ldV2 :: (stkDummy ++ (push .pch ++ (push .pcl ++ [.rdPc, .ldPc])))) h rfl
  rw [runToEnd_quiet rfl, runToEnd_stkDummy _ rfl, runToEnd_push _ _ rfl, runToEnd_push _ _ rfl,
    runToEnd_rdPc_ldPc] at ht
  rw [sub_two_eq]
  exact ⟨_, ht, exec_boundary h ht,
    ⟨(Memory.at_put_ne (stackAddr_ne_sub_one s.sp)).trans (Memory.at_put_eq hmem), Memory.at_put_eq (Memory.put_wf hmem),
      rfl, ⟨regsBut_s rfl rfl rfl, flagsBut_of_p_eq rfl, fun _ => Memory.at_put_put_of_not_mem, ⟨rfl, rfl, rfl⟩, rfl⟩,
      rfl⟩,
    rfl, rfl⟩

/-- Settles O53: two pulls, and the increment of PC past the word pulled, whose byte is read. -/
theorem rtsPullsTheReturnAddress : Obligations.RtsPullsTheReturnAddress := by
  refine ⟨rfl, fun s h => ?_⟩
  have ht := exec_pull (i := .rts) (ops := .ldV2 :: (pull ++ [.ldPc, .rdPcInc, .done])) h rfl
  rw [runToEnd_quiet rfl, runToEnd_pull _ rfl, runToEnd_quiet rfl] at ht
  rw [add_two_eq]
  exact ⟨_, ht, exec_boundary h ht, ⟨rfl, rfl⟩, rfl,
    ⟨regsBut_s rfl rfl rfl, flagsBut_of_p_eq rfl, fun _ _ => rfl, ⟨rfl, rfl, rfl⟩, rfl⟩, rfl⟩

/-- Settles O57: RTS pulls the two bytes that JSR pushed, and goes one past the address they make. -/
theorem jsrThenRtsReturns : Obligations.JsrThenRtsReturns := by
  intro s h hmem
  obtain ⟨t, ht, hb, ⟨hhi, hlo, -, ⟨hregs, -⟩, -⟩, hsp, hp⟩ := jsrPushesTheReturnAddress.2 s h hmem
  obtain ⟨u, hu, hb', ⟨hpc, -⟩, hsp', ⟨hregs', -⟩, hp'⟩ := rtsPullsTheReturnAddress.2 t hb
  have hsp1 : t.sp + 1#8 = s.sp - 1#8 := by bv_omega
  have hsp2 : t.sp + 2#8 = s.sp := by bv_omega
  rw [hsp2] at hsp'
  rw [hsp1, hsp2, hhi, hlo, mk16_hi8_lo8, BitVec.add_assoc] at hpc
  exact ⟨t, u, ht, hu, hb', hpc, regsBut_nil (regsBut_trans hregs hregs') hsp', hp'.trans hp⟩

/-! ### BRK, RTI -/

/-- Settles O54: the status pull and then the address pull. -/
theorem rtiRestoresStatusAndPc : Obligations.RtiRestoresStatusAndPc := by
  refine ⟨rfl, fun s h => ?_⟩
  have ht := exec_pull (i := .rti) (ops := .ldV :: .pFromV :: (pull ++ (.ldV2 :: (pull ++ [.ldPc])))) h rfl
  rw [runToEnd_quiet rfl, runToEnd_quiet rfl, runToEnd_pull _ rfl, runToEnd_quiet rfl, runToEnd_pull _ rfl] at ht
  rw [add_two_eq, add_three_eq]
  exact ⟨_, ht, exec_boundary h ht, ⟨rfl, rfl, rfl⟩, rfl, regsBut_s rfl rfl rfl, fun _ _ => rfl, ⟨rfl, rfl, rfl⟩, rfl⟩

/-- R414, R506: the micro-ops of trap entry after its pushes. -/
def trapVector : List MicroOp :=
  [.setF .i true, .setW Config.brkVectorLo, .rdW, .ldV2, .setW Config.brkVectorHi, .rdW, .ldPc]

/-- R414, R506: `u` with I set and PC loaded from the vector. -/
def State.loadVector (u : State) : State :=
  { u with
    p := setFlag u.p .i true, v2 := u.mem.at Config.brkVectorLo, w := Config.brkVectorHi, cursor := u.cursor + 5
    trace := readEntry u.mem Config.brkVectorLo :: u.trace }.loadPc Config.brkVectorHi

/-- R414, R506: trap entry after its pushes. -/
theorem runToEnd_trapVector {u : State} (hy : u.yield = false) : runToEnd trapVector u = u.loadVector := by
  simp [trapVector, runToEnd, tick, runMicro, busRead, clearYield, service, queueFetch, State.loadVector, State.loadPc,
    readEntry, hy]

/-- R414, R506: BRK after the padding byte's read and the three pushes, beside the state `s` at the boundary. -/
def afterTrapPushes (s : State) : State :=
  (((afterByteRead .brk s).pushByte (hi8 (s.pc + 2#16))).pushByte (lo8 (s.pc + 2#16))).pushByte (pushedStatus s.p)

/-- R414: BRK from a boundary is its pushes, and then the vector. -/
theorem exec_brk {s : State} (h : AtBoundary s) : exec .brk s = .next (afterTrapPushes s).loadVector := by
  have hseq : seqOf .brk = composeImm ++ (push .pch ++ (push .pcl ++ (push .pPush ++ trapVector))) := rfl
  rw [exec_byteRead h hseq, runToEnd_push _ _ rfl, runToEnd_push _ _ rfl, runToEnd_push _ _ rfl,
    runToEnd_trapVector rfl]
  rfl

/-- R414: the trap's pushes write three bytes of page 1. -/
theorem afterTrapPushes_memBut (s : State) :
    MemBut [stackAddr s.sp, stackAddr (s.sp - 1#8), stackAddr (s.sp - 1#8 - 1#8)] s (afterTrapPushes s) := fun _ =>
  Memory.at_put_of_not_mem (as := [_, _]) Memory.at_put_put_of_not_mem

/-- R414, R82: the trap's pushes leave the vector, and every byte outside page 1. -/
theorem afterTrapPushes_mem_at {s : State} {a : Addr} (ha : hi8 a ≠ 0x01#8) :
    (afterTrapPushes s).mem.at a = s.mem.at a :=
  afterTrapPushes_memBut s a (by simp [ne_stackAddr ha])

/-- R250: a read of memory at an address that a change of it leaves. -/
theorem readEntry_congr {m m' : Memory} {a : Addr} (h : m.at a = m'.at a) : readEntry m a = readEntry m' a := by
  rw [readEntry, h, readEntry]

/-- Settles O55: the three pushes go to three bytes of page 1, where the vector is not. -/
theorem brkTakesTheTrap : Obligations.BrkTakesTheTrap := by
  refine ⟨rfl, fun s h hmem => ?_⟩
  have ht := exec_brk h
  have hvlo : (afterTrapPushes s).mem.at 0xFFFE#16 = s.mem.at 0xFFFE#16 := afterTrapPushes_mem_at (by decide)
  have hvhi : (afterTrapPushes s).mem.at 0xFFFF#16 = s.mem.at 0xFFFF#16 := afterTrapPushes_mem_at (by decide)
  rw [sub_two_eq, sub_three_eq]
  refine ⟨_, ht, exec_boundary h ht, ⟨?_, ?_, ?_, ⟨?_, ?_, ?_, ?_, ?_⟩, ?_⟩, ?_, ?_, ?_⟩
  · exact (Memory.at_put_ne (stackAddr_ne_sub_two s.sp)).trans
      ((Memory.at_put_ne (stackAddr_ne_sub_one s.sp)).trans (Memory.at_put_eq hmem))
  · exact (Memory.at_put_ne (stackAddr_ne_sub_one _)).trans (Memory.at_put_eq (Memory.put_wf hmem))
  · exact Memory.at_put_eq (Memory.put_wf (Memory.put_wf hmem))
  · exact regsBut_s rfl rfl rfl
  · exact flagsBut_setFlag s .i true
  · exact afterTrapPushes_memBut s
  · exact ⟨rfl, rfl, rfl⟩
  · rfl
  · rw [TraceIs, ← readEntry_congr hvlo, ← readEntry_congr hvhi]
    rfl
  · rw [← hvlo, ← hvhi]
    rfl
  · rfl
  · exact (getFlag_setFlag s.p .i .i true).trans (if_pos rfl)

/-- Settles O56: RTI pulls the three bytes that BRK pushed. -/
theorem brkThenRtiResumes : Obligations.BrkThenRtiResumes := by
  intro s h hmem
  obtain ⟨t, ht, hb, ⟨hhi, hlo, hst, ⟨hregs, -⟩, -⟩, -, hsp, -⟩ := brkTakesTheTrap.2 s h hmem
  obtain ⟨u, hu, hb', ⟨hp, hpc, -⟩, hsp', hregs', -⟩ := rtiRestoresStatusAndPc.2 t hb
  have hsp1 : t.sp + 1#8 = s.sp - 2#8 := by bv_omega
  have hsp2 : t.sp + 2#8 = s.sp - 1#8 := by bv_omega
  have hsp3 : t.sp + 3#8 = s.sp := by bv_omega
  rw [hsp3] at hsp'
  rw [hsp2, hsp3, hhi, hlo, mk16_hi8_lo8] at hpc
  rw [hsp1, hst] at hp
  exact ⟨t, u, ht, hu, hb', hpc, regsBut_nil (regsBut_trans hregs hregs') hsp', hp.trans (pulled_pushed s.p)⟩

end Sys2Proof.Machine
end

section
/-! The cycle counts (70_reset_and_hazards.md R615) and the launch state (R603). A sequence without a conditional yield
takes a cycle for its opcode fetch and one for each micro-op that yields; the others are the branches and the reads
with an index that may cross a page. -/

namespace Sys2Proof.Machine

/-! ### Sequences without a conditional yield -/

/-- R161, R175, R176: the primitives that yield on a condition. -/
def yieldsOnCondition : MicroOp → Bool
  | .fixRdIfCross => true
  | .brTest _ _ => true
  | .brFix => true
  | _ => false

/-- R142 to R145: the other primitives that may yield always do. -/
theorem tick_yields {m : MicroOp} (h : mayYield m = true) (hc : yieldsOnCondition m = false) (s : State) :
    (tick m s).yield = true := by
  cases m with
  | rdPc | rdPcInc | rdW | wrW => rfl
  | fixRdIfCross | brTest | brFix => cases hc
  | _ => cases h

/-- R247: a run without a conditional yield makes one transaction for each micro-op that yields. -/
theorem runToEnd_trace_length : ∀ {ops : List MicroOp} {s : State}, ops.any yieldsOnCondition = false →
    s.yield = false → (runToEnd ops s).trace.length = s.trace.length + ops.countP mayYield
  | [], _, _, _ => rfl
  | m :: ms, s, h, hs => by
    rw [List.any_cons, Bool.or_eq_false_iff] at h
    obtain ⟨hm, hms⟩ := h
    cases hy : mayYield m
    · have hq : (tick m s).yield = false := (tick_quiet m s hy).trans hs
      rw [runToEnd_quiet hq, runToEnd_trace_length hms hq, tick_trace, List.countP_cons_of_neg (by simp [hy])]
    · rw [runToEnd_yield (tick_yields hy hm s), runToEnd_trace_length hms (by simp), service_trace_length,
        clearYield_trace, tick_trace, List.countP_cons_of_pos hy]
      omega

/-- R247: the cycles of an instruction without a conditional yield. -/
theorem cyclesBetween_exec {i : Instr} {s t : State} (h : AtBoundary s)
    (hu : (seqOf i).any yieldsOnCondition = false) (ht : exec i s = .next t) :
    cyclesBetween s t = 1 + (seqOf i).countP mayYield := by
  rw [exec_at_boundary h] at ht
  cases ht
  obtain ⟨-, -, hy, -⟩ := h
  rw [cyclesBetween, runToEnd_trace_length hu (by simpa using hy), beginInstr_trace, service_trace_length]
  omega

/-! ### The table of R615 -/

/-- R209: a read with an index that may cross a page. -/
def isFastIndexed (i : Instr) : Bool := accessKind i.mnemonic = some .read && i.mode ∈ [Mode.abx, .aby, .izy]

/-- R615: an instruction that is neither a branch nor a fast-indexed read has no conditional yield, and the opcode fetch
and its micro-ops that yield are the fixed part of its count. -/
theorem seqOf_unconditional {i : Instr} (hc : branchCondition i.mnemonic = none) (hi : isFastIndexed i = false) :
    (seqOf i).any yieldsOnCondition = false ∧ baseCycles i.mnemonic i.mode = 1 + (seqOf i).countP mayYield := by
  revert hc hi
  cases i <;> decide

/-- R390, R392 to R399: the sequence of a branch, and the fixed part of its count. -/
theorem seqOf_branch {i : Instr} {f : Flag} {b : Bool} (hc : branchCondition i.mnemonic = some (f, b)) :
    seqOf i = branchSeq f b ∧ baseCycles i.mnemonic i.mode = 2 ∧ accessKind i.mnemonic = none := by
  cases i with
  | bpl | bmi | bvc | bvs | bcc | bcs | bne | beq =>
    cases hc
    exact ⟨rfl, rfl, rfl⟩
  | _ => cases hc

/-- R391: the dummy reads of a branch are its extra cycles. -/
theorem length_branchDummyReads {i : Instr} {f : Flag} {b : Bool} (hc : branchCondition i.mnemonic = some (f, b))
    (s : State) : (branchDummyReads f b (afterOffsetRead i s)).length = branchExtra i.mnemonic s := by
  simp only [branchDummyReads, branchExtra, hc, apply_ite List.length]
  rfl

/-- R391, R615: the cycles of a branch. -/
theorem branch_cycles {i : Instr} {f : Flag} {b : Bool} {s t : State} (h : AtBoundary s)
    (hc : branchCondition i.mnemonic = some (f, b)) (ht : exec i s = .next t) :
    cyclesBetween s t = documentedCycles i s := by
  obtain ⟨hseq, hbase, hk⟩ := seqOf_branch hc
  obtain ⟨t', ht', -, -, -, T⟩ := exec_branch_spec h hseq
  cases ht'.symm.trans ht
  rw [cyclesBetween_of_traceIs T, List.length_append, length_branchDummyReads hc, documentedCycles, hbase, crossExtra,
    hk]
  rfl

/-- R391: only a branch has a branch's extra cycles. -/
theorem branchExtra_of_none {m : Mnemonic} (hc : branchCondition m = none) (s : State) : branchExtra m s = 0 := by
  rw [branchExtra, hc]

/-- R208, R211: the modes with an index that may cross a page. -/
theorem indexBase_eq_none {m : Mode} (hm : m ∉ [Mode.abx, .aby, .izy]) (s : State) : indexBase m s = none := by
  cases m with
  | abx | aby | izy => exact absurd hm (by decide)
  | _ => rfl

/-- R208, R211: such a mode has a base and an index. -/
theorem exists_indexBase {m : Mode} (hm : m ∈ [Mode.abx, .aby, .izy]) (s : State) :
    ∃ base r, indexBase m s = some (base, r) := by
  fin_cases hm <;> exact ⟨_, _, rfl⟩

/-- R209: only a fast-indexed read has the page-cross cycle. -/
theorem crossExtra_of_not_fastIndexed {i : Instr} (hi : isFastIndexed i = false) (s : State) : crossExtra i s = 0 := by
  rw [crossExtra, if_neg]
  rintro ⟨hk, hcross⟩
  have hm : i.mode ∉ [Mode.abx, .aby, .izy] := by simpa [isFastIndexed, hk] using hi
  rw [crosses, indexBase_eq_none hm] at hcross
  cases hcross

/-- R615: the fixed part of a fast-indexed read's count. -/
theorem baseCycles_of_fastIndexed {i : Instr} (hi : isFastIndexed i = true) :
    baseCycles i.mnemonic i.mode = if i.mode = .izy then 5 else 4 := by
  revert hi
  cases i <;> decide

/-- R209, R615: the cycles of a fast-indexed read. -/
theorem fastIndexed_cycles {i : Instr} {s t : State} (h : AtBoundary s) (hi : isFastIndexed i = true)
    (hc : branchCondition i.mnemonic = none) (ht : exec i s = .next t) :
    cyclesBetween s t = documentedCycles i s := by
  have hbase := baseCycles_of_fastIndexed hi
  rw [isFastIndexed, Bool.and_eq_true, decide_eq_true_iff, decide_eq_true_iff] at hi
  obtain ⟨hk, hm⟩ := hi
  obtain ⟨base, r, hb⟩ := exists_indexBase hm s
  obtain ⟨hcount, -⟩ := exec_read_crossing h hb ht hk
  have hcross : crossExtra i s = if 0xFF < base.toNat % 256 + r.toNat then 1 else 0 := by
    simp only [crossExtra, crosses, hb, hk, pageCross_iff, true_and]
  rw [hcount, documentedCycles, hbase, hcross, branchExtra_of_none hc, Nat.add_zero]

/-- Settles O17: a branch, a fast-indexed read, and every other instruction. -/
theorem cycleCountsAreTheDocumentedOnes : Obligations.CycleCountsAreTheDocumentedOnes := by
  intro i s h
  obtain ⟨t, ht⟩ : ∃ t, exec i s = .next t := ⟨_, exec_at_boundary h i⟩
  refine ⟨t, ht, ?_⟩
  cases hc : branchCondition i.mnemonic with
  | some fb => exact branch_cycles h hc ht
  | none =>
    cases hi : isFastIndexed i with
    | true => exact fastIndexed_cycles h hi hc ht
    | false =>
      obtain ⟨hu, hbase⟩ := seqOf_unconditional hc hi
      rw [cyclesBetween_exec h hu ht, documentedCycles, hbase, crossExtra_of_not_fastIndexed hi,
        branchExtra_of_none hc, Nat.add_zero]

/-! ### Launch -/

/-- Settles O7: the launch state is given field by field, and its pending transaction is the opcode fetch at PC. -/
theorem launchIsAtABoundary : Obligations.LaunchIsAtABoundary :=
  fun _ _ _ _ _ _ _ => ⟨rfl, rfl, rfl, rfl, rfl, rfl, rfl⟩

end Sys2Proof.Machine
end
